-- ==== Sys2Proof/Word.lean ====
section
/-!
DEFINITION. The words of the BW-3216: bytes, and the bit patterns the manual treats as bits.
-/
namespace Sys2Proof

/-- A byte of a carriage unit, of a table image or of the serial memory (R175: bit 7 is the most
significant). -/
abbrev Byte := BitVec 8

/-- A 32-bit count: monotonic seconds, an expiry, the load counter (R41, R42, R74). -/
abbrev Word32 := BitVec 32

/-- The 31 stages of a signature or keystream register; bit k is stage k + 1 (R68, R85). -/
abbrev Register31 := BitVec 31

end Sys2Proof
end

