-- ==== Sys2Proof/Syntax.lean ====
section
/-!
DEFINITION. The commands of the BW-3216: one constructor per row of spec/opcode_table.json. The
operands of a unit that the Classifier takes stand in the unit itself, at the head of its FIFO, so
those rows carry none.
-/
namespace Sys2Proof

/-- The two tables of the Table Loader (R55). -/
inductive Table where
  | service
  | tariff
  deriving DecidableEq, Repr

/-- The two program outputs (R159). -/
inductive OutputId where
  | a
  | b
  deriving DecidableEq, Repr

/-- Why the building feed interface discards a unit (R3), with the byte of the unit-start indication
that stands at the interface when it has done so. -/
inductive FeedDiscard where
  /-- The unit's first byte is not 0xB5. -/
  | badSync (first : Byte)
  /-- A new unit-start indication, with the byte `next`, came before 128 bytes of the current unit. -/
  | cutShort (next : Byte)
  deriving DecidableEq, Repr

/-- The commands: the rows of spec/opcode_table.json, in its order. -/
inductive Instr where
  /-- POWER_UP (R92). -/
  | powerUp
  /-- RESET_HELD_LOW (R93). -/
  | resetHeldLow
  /-- RESET_RELEASE (R93). -/
  | resetRelease
  /-- STANDBY_SUPPLY_LOSS (R91). -/
  | standbySupplyLoss
  /-- INSTALLATION_READ_END (R90): `memory` is what was read, 64 record bytes and 4 of signature. -/
  | installationReadEnd (memory : List Byte)
  /-- FEED_UNIT_ARRIVAL (R6): the bytes that follow one unit-start indication up to the next. -/
  | feedUnitArrival (bytes : List Byte)
  /-- LOCAL_INSERT_BYTE (R4). -/
  | localInsertByte (byte : Byte)
  /-- MEDIA_UNIT (R15). -/
  | mediaUnit
  /-- DISCARDED_FEED_UNIT (R13). -/
  | discardedFeedUnit
  /-- TIME_MARK (R45). -/
  | timeMark
  /-- KEY_UNIT (R71). -/
  | keyUnit
  /-- DIRECTIVE_IGNORED (R22). -/
  | directiveIgnored
  /-- TABLE_OPEN (R57). -/
  | tableOpen
  /-- TABLE_ROWS (R58). -/
  | tableRows
  /-- TABLE_CLOSE (R59). -/
  | tableClose
  /-- CHECK_COMPLETION (R64) of the check of one table. -/
  | checkCompletion (table : Table)
  /-- TABLE_ACTIVATION (R66) of the PENDING stage of one table. -/
  | tableActivation (table : Table)
  /-- TABLE_COMMIT (R67) of one table. -/
  | tableCommit (table : Table)
  /-- ROOM_RECORD (R99). -/
  | roomRecord
  /-- TENANCY_CHANGE (R102). -/
  | tenancyChange
  /-- COMPLETION_TIMEOUT (R105). -/
  | completionTimeout
  /-- LOCK_RESET (R118). -/
  | lockReset
  /-- PURCHASE_VOID (R144). -/
  | purchaseVoid
  /-- BILLING_RECEIPT (R154). -/
  | billingReceipt
  /-- BILLING_POLL (R155). -/
  | billingPoll
  /-- EMERGENCY_ON (R171). -/
  | emergencyOn
  /-- EMERGENCY_OFF (R172). -/
  | emergencyOff
  /-- REFUSED_UNIT (R14). -/
  | refusedUnit
  /-- UNKNOWN_COMMAND (R25). -/
  | unknownCommand
  /-- SELECT (R161). -/
  | select
  /-- PURCHASE (R128). -/
  | purchase
  /-- PIN_ENTRY (R114). -/
  | pinEntry
  /-- RELOCK (R117). -/
  | relock
  /-- QUERY (R29). -/
  | query
  /-- ALERT_SETUP (R38). -/
  | alertSetup
  /-- ALERT_CLEAR (R39). -/
  | alertClear
  /-- SECOND_EVENT (R41). -/
  | secondEvent
  /-- SESSION_EXPIRY (R119). -/
  | sessionExpiry
  /-- LOCKOUT_EXPIRY (R119). -/
  | lockoutExpiry
  /-- GRACE_USED_UP (R134). -/
  | graceUsedUp
  /-- GRACE_LAPSE (R134). -/
  | graceLapse
  /-- STEP_REMAINING_END (R135). -/
  | stepRemainingEnd
  /-- RESULT_UNIT_BEGIN (R33): `ready` is the level of RET_RDY. -/
  | resultUnitBegin (ready : Bool)
  /-- RESULT_UNIT_END (R28): `ready` is the level of RET_RDY. -/
  | resultUnitEnd (ready : Bool)
  /-- BILLING_UNIT_BEGIN (R152): `ready` is the level of RET_RDY. -/
  | billingUnitBegin (ready : Bool)
  /-- BILLING_UNIT_END (R153): `ready` is the level of RET_RDY. -/
  | billingUnitEnd (ready : Bool)
  /-- OUTPUT_UNIT_BEGIN (R166): `ready` is the level of the decoder's ready line for `output`. -/
  | outputUnitBegin (output : OutputId) (ready : Bool)
  /-- OUTPUT_UNIT_END (R166): `ready` is the level of the decoder's ready line for `output`. -/
  | outputUnitEnd (output : OutputId) (ready : Bool)
  /-- FEED_INTERFACE_DISCARD (R3). -/
  | feedInterfaceDiscard (why : FeedDiscard)
  /-- MAIN_SUPPLY_LOSS (R91). -/
  | mainSupplyLoss
  /-- COLD_START_WRITES_END (R95). -/
  | coldStartWritesEnd
  deriving DecidableEq, Repr

end Sys2Proof
end

