-- ==== Sys2Proof/Decode.lean ====
section
/-!
DEFINITION. The command a word of the table spells. No row of spec/opcode_table.json gives bits, so
no word spells a command. (The fields of carriage units are read in Machine/Operands.lean.)
-/
namespace Sys2Proof

/-- The command spelt by an instruction word of `nbits` bits: the table gives none of its rows any
bits. -/
def decodeTableWord (_nbits _w : Nat) : Option Instr := none

end Sys2Proof
end

