-- ==== Sys2Proof/Machine/Records.lean ====
section
/-!
DEFINITION. The records that the blocks of the part keep: the parts of State, each as its chapter
gives it. State itself is in Machine/State.lean.
-/
namespace Sys2Proof.Machine

/-! ### Carriage units (chapter 1) -/

/-- The four codes of the key phase field (R1, §11.4); the fourth is a header fault (R2). -/
inductive KeyPhase where
  | clear
  | phaseA
  | phaseB
  | noMeaning
  deriving DecidableEq, Repr

/-- A carriage unit whose sync is 0xB5 (R1): its header fields and its 124 payload bytes. -/
structure CarriageUnit where
  label : BitVec 12
  phase : KeyPhase
  start : Bool
  /-- The spare bit of header byte 2. -/
  spare2 : Bool
  sequence : BitVec 4
  /-- The spare bits of header byte 3. -/
  spare3 : BitVec 4
  payload : List Byte
  deriving DecidableEq, Repr

/-- A unit in an input FIFO, with its arrival stamp (R5). -/
structure StampedUnit where
  unit : CarriageUnit
  stamp : BitVec 24
  deriving DecidableEq, Repr

/-- The two inputs of the Classifier, as its preference names them (R11). -/
inductive Input where
  | feed
  | localInsert
  deriving DecidableEq, Repr

/-- The building feed interface (R3, R19). -/
inductive FeedInterface where
  /-- Awaiting a unit-start indication with byte 0xB5. -/
  | awaiting
  /-- A unit that began with 0xB5 is arriving. -/
  | receiving
  deriving DecidableEq, Repr

/-- The shed state of the Input Merge (R7). -/
inductive ShedState where
  | normal
  | shedding
  deriving DecidableEq, Repr

/-- A sequence reference of the Classifier (R16). -/
structure SequenceRef where
  label : Nat
  sequence : BitVec 4
  deriving DecidableEq, Repr

/-- Input Merge and Unit Classifier (R19). -/
structure InputMerge where
  feedIf : FeedInterface
  /-- Building Feed FIFO, oldest first (R6). -/
  feed : List StampedUnit
  /-- Local insert assembly buffer, in order of arrival (R4). -/
  asm : List Byte
  /-- Local Insert FIFO, oldest first (R10). -/
  localQ : List StampedUnit
  shed : ShedState
  /-- Arrival-stamp counter (R5). -/
  stamp : BitVec 24
  pref : Input
  refs : List SequenceRef
  deriving DecidableEq, Repr

/-! ### Commands, results, return port, alerts (chapter 2) -/

/-- The result codes of R27. -/
inductive ResultCode where
  | done
  | badForm
  | noService
  | notFilm
  | already
  | purchasesFull
  | billingFull
  | limit
  | locked
  | barred
  | outOfWindow
  | wrongPin
  | lockedOut
  | noPin
  | vacant
  | timeUnset
  | override
  | closing
  deriving DecidableEq, Repr

/-- A result of the Result Queue (R27). -/
structure Result where
  tag : Byte
  kind : Byte
  code : ResultCode
  body : List Byte
  deriving DecidableEq, Repr

/-- What a unit in progress on the return port is (R33). -/
inductive ReturnKind where
  | result
  /-- The billing unit of the record of this serial. -/
  | billing (serial : Nat)
  deriving DecidableEq, Repr

/-- A unit that a port is sending (R32, R166): its bytes, and the port's place within it. -/
structure Sending where
  bytes : List Byte
  /-- How many of its bytes have left: the place of the next byte (log 8). -/
  sent : Nat
  deriving DecidableEq, Repr

/-- A byte on a port out, with the unit-start indication that goes with it (R32, R166, §11.5). -/
structure PortByte where
  byte : Byte
  unitStart : Bool
  deriving DecidableEq, Repr

/-- A unit in progress on the return port: what it is, its 128 bytes, and the place within it (R32). -/
structure ReturnUnit extends Sending where
  kind : ReturnKind
  deriving DecidableEq, Repr

/-- The Return Port (R32 to R34). -/
structure ReturnPort where
  resultSeq : BitVec 4
  billingSeq : BitVec 4
  inProgress : Option ReturnUnit
  /-- RET_RDY as last sampled. -/
  ready : Bool
  deriving DecidableEq, Repr

/-- The sixteen alert sources (R35). -/
inductive AlertSource where
  | feedOverflow
  | insetShed
  | feedGap
  | outputOverrun
  | keyTableFull
  | tableRejected
  | tableCommitted
  | directiveFault
  | tenancyChanged
  | lockout
  | sessionEnded
  | purchaseEnded
  | billingHigh
  | timeUnset
  | installationFault
  | emergency
  deriving DecidableEq, Repr

/-- The direction of a crossing that BILLING HIGH latches on (R35). -/
inductive Sense where
  | rising
  | falling
  deriving DecidableEq, Repr

/-- The Alert Unit (R35). Bit n of `latched` is the flag of the source of code n (R176); `levels`
are those of the fifteen adjustable sources in code order. -/
structure AlertUnit where
  latched : BitVec 16
  levels : List Nat
  sense : Sense
  mask : Nat
  deriving DecidableEq, Repr

/-! ### Time (chapter 3) -/

/-- Building time (R43). -/
structure BuildingTime where
  day : BitVec 16
  second : Nat
  deriving DecidableEq, Repr

/-- The Time Base (R41, R43). The time state is SET when `building` is present. -/
structure TimeBase where
  mono : Word32
  /-- Microseconds of clock since the present second began (R41's one-second divider). -/
  divider : Nat
  building : Option BuildingTime
  deriving DecidableEq, Repr

/-! ### Tables (chapter 4) -/

/-- A row image, a step image, or any string of bytes. -/
abbrev Image := List Byte

/-- The access kinds of a service (R51), and a code with no meaning (R62). -/
inductive AccessKind where
  | openToAll
  | package
  | film
  | noMeaning
  deriving DecidableEq, Repr

/-- The fields of a Service Table row (R51). -/
structure ServiceRow where
  label : Nat
  access : AccessKind
  rating : Nat
  package : Nat
  film : Nat
  tariffStart : Nat
  tariffCount : Nat
  grace : Nat
  ceiling : Nat
  deriving DecidableEq, Repr

/-- How a step's seconds are counted (R53). -/
inductive Measure where
  | elapsed
  | viewed
  deriving DecidableEq, Repr

/-- A tariff step as a purchase copies it (R53, R54). -/
structure TariffStep where
  duration : Nat
  measure : Measure
  charge : Nat
  repeats : Nat
  increment : Nat
  deriving DecidableEq, Repr

/-- The stage states of R55, each with what is held with it. -/
inductive Stage where
  | idle
  | filling (generation : Nat) (rows : List Image)
  | checking (generation : Nat) (rows : List Image) (expected : Nat) (activation : Option BuildingTime)
  | waiting (generation : Nat) (rows : List Image) (activation : BuildingTime)
  deriving DecidableEq, Repr

/-- One of the two machines of the Table Loader (R55). -/
structure TableMachine where
  activeGen : Nat
  active : List Image
  stage : Stage
  sigReg : Register31
  lastSig : Option Register31
  /-- The model's own: the commit has been decided and not yet made (R67; log 6). -/
  commitDue : Bool
  deriving DecidableEq, Repr

/-! ### Keys (chapter 5) -/

/-- A LOADED key slot (R73). -/
structure KeySlot where
  label : Nat
  house : Bool
  wordA : Option (BitVec 64)
  wordB : Option (BitVec 64)
  used : Bool
  order : Word32
  deriving DecidableEq, Repr

/-- Key Table and Descrambler (R73, R74, R85); an absent slot is EMPTY. -/
structure KeyTable where
  slots : List (Option KeySlot)
  loads : Word32
  keystream : Register31
  deriving DecidableEq, Repr

/-- The Descrambler's outcomes (R84). -/
inductive Outcome where
  | clear
  | descrambled
  | noKey
  deriving DecidableEq, Repr

/-! ### Installation and tenancy (chapter 6) -/

/-- The values of the installation record in force (R88), but the alert levels and the sense, which
the Alert Unit holds (R90; log 22). -/
structure Installation where
  room : Nat
  groups : List Nat
  shedThr : Nat
  resumeThr : Nat
  trailerA : Bool
  trailerB : Bool
  billingHigh : Nat
  /-- The INSTALLATION FAULT condition (R90). -/
  fault : Bool
  deriving DecidableEq, Repr

/-- The lock modes (R97). -/
inductive LockMode where
  | off
  | pin
  | barred
  deriving DecidableEq, Repr

/-- Four digits (R97, R114). -/
structure Pin where
  d1 : Nat
  d2 : Nat
  d3 : Nat
  d4 : Nat
  deriving DecidableEq, Repr

/-- An adult window: seconds of day (R97, R111). -/
structure Window where
  opens : Nat
  closes : Nat
  deriving DecidableEq, Repr

/-- A room record (R97). -/
structure RoomRecord where
  tenancyId : Nat
  packages : BitVec 32
  lockMode : LockMode
  threshold : Nat
  pin : Option Pin
  session : Nat
  window : Option Window
  spendLimit : Nat
  billingDayStart : Nat
  deriving DecidableEq, Repr

/-- The tenancy states (R101). -/
inductive Tenancy where
  | vacant
  | occupied
  | closing
  deriving DecidableEq, Repr, Inhabited

/-! ### Lock (chapter 7) -/

/-- The lock states with their expiries (R112). -/
inductive LockState where
  | locked
  | unlocked (expiry : Word32)
  | lockout (expiry : Word32)
  deriving DecidableEq, Repr

/-- Window membership (R120). -/
inductive Membership where
  | none
  | inside
  | outside
  deriving DecidableEq, Repr

/-- The Lock Unit's own state that is not retained (R112, R120). -/
structure LockUnit where
  state : LockState
  membership : Membership
  deriving DecidableEq, Repr

/-! ### Purchases (chapter 8) -/

/-- The state of a purchase with its counts (R125). -/
inductive PurchaseState where
  | grace (needed viewed lapse : Nat)
  | running (position repetition remaining : Nat)
  deriving DecidableEq, Repr

/-- A live purchase (R125). -/
structure Purchase where
  number : Nat
  film : Nat
  state : PurchaseState
  steps : List TariffStep
  total : Nat
  ceiling : Option Nat
  deriving DecidableEq, Repr

/-- The end reasons (R143). -/
inductive EndReason where
  | complete
  | lapsed
  | limit
  | queue
  | void
  | tenancy
  | power
  deriving DecidableEq, Repr

/-! ### Billing (chapter 9) -/

/-- What a billing record reports, with the fields of its kind (R149). -/
inductive BillingEntry where
  | charge (amount position repetition : Nat)
  | ended (reason : EndReason) (total : Nat)
  deriving DecidableEq, Repr

/-- A billing record (R149). -/
structure BillingRecord where
  serial : Nat
  entry : BillingEntry
  room : Nat
  tenancyId : Nat
  purchase : Nat
  film : Nat
  day : Nat
  second : Nat
  timeUnknown : Bool
  offered : Bool
  deriving DecidableEq, Repr

/-- The retained area (R91), but its validity word. `waiting` is the pending slot. -/
structure Retained where
  tenancy : Tenancy
  active : Option RoomRecord
  waiting : Option RoomRecord
  incoming : Option RoomRecord
  purchases : List Purchase
  spentToday : Nat
  billingDay : Option (BitVec 16)
  nextPurchase : Nat
  failures : Nat
  records : List BillingRecord
  nextSerial : Nat
  deriving DecidableEq, Repr, Inhabited

/-! ### Presentation gate (chapter 10) -/

/-- The verdicts of R163, and NONE. -/
inductive Verdict where
  | none
  | pass
  | passOverride
  | noService
  | notEntitled
  | notPurchased
  | locked
  | barred
  | outOfWindow
  | noKey
  | entryWait
  deriving DecidableEq, Repr

/-- The output states (R160). -/
inductive OutputState where
  | idle
  | waiting
  | passing
  | entryWait
  | blanked
  deriving DecidableEq, Repr

/-- A unit in an Output Queue (R164). -/
structure QueuedUnit where
  unit : CarriageUnit
  stamp : BitVec 24
  verdict : Verdict
  deriving DecidableEq, Repr

/-- One program output: the gate's record of it and its Output Stage (R159, R165, R166). -/
structure Output where
  /-- 0 is none. -/
  selected : Nat
  saved : Nat
  state : OutputState
  entryWait : Bool
  viewed : Bool
  last : Verdict
  queue : List QueuedUnit
  /-- The unit in transfer to the decoder. -/
  transfer : Option Sending
  /-- The decoder's ready line as last sampled. -/
  ready : Bool
  deriving DecidableEq, Repr

/-! ### Supplies and starts (chapter 6) -/

/-- Where a powered part is between a start and running (R89, R95): it is STARTING in the first two. -/
inductive Phase where
  /-- The writes of a cold start are in progress. -/
  | coldWrites
  /-- The installation read is in progress. -/
  | reading
  /-- STARTING has ended. -/
  | running
  deriving DecidableEq, Repr

/-- Supplies, reset line, phase of the start, validity word. -/
structure Power where
  mainSupply : Bool
  standbySupply : Bool
  /-- The reset line is held low. -/
  resetLow : Bool
  phase : Phase
  /-- The validity word holds its fixed value (log 10). -/
  valid : Bool
  /-- The model's own: how often the retained area has been lost (log 9). -/
  losses : Nat
  deriving DecidableEq, Repr

/-! ### The model's own free choices -/

/-- The consumers of an event whose order the spec leaves open (R47, R100, R103). -/
inductive Consumer where
  /-- The Lock Unit (R119 to R122). -/
  | lock
  /-- The Purchase Meter. -/
  | meter
  /-- The Table Loader. -/
  | loader
  /-- The Tenancy Unit. -/
  | tenancy
  /-- The Key Table. -/
  | keys
  /-- The Presentation Gate. -/
  | gate
  deriving DecidableEq, Repr

/-- One free choice: the order in which the consumers of an event take it, which of them take it in a
step of their own (logs 4, 5, 6), and whether the Lock Unit evaluates its window membership before it
compares its expiry (log 26). -/
structure Choice where
  order : List Consumer
  later : List Consumer
  windowFirst : Bool
  deriving DecidableEq, Repr

/-- The three ports of the part that send units (R32, R166). -/
inductive ExitPort where
  | returnPort
  | output (o : Sys2Proof.OutputId)
  deriving DecidableEq, Repr

/-- The choices still to be used, the consumers that owe the last second event (logs 4, 5), the order of
the Lock Unit's two reactions to it (log 26), and how many microseconds have drawn their free counts of
bytes (log 8). -/
structure Schedule where
  choices : List Choice
  due : List Consumer
  windowFirst : Bool
  drawn : Nat
  deriving DecidableEq, Repr

end Sys2Proof.Machine
end

