-- ==== Sys2Proof/Config.lean ====
section
/-!
DEFINITION. The free values of the model. Nothing can be proved of them, so a statement holds for
every value they may have.
-/
namespace Sys2Proof

/-- What the retained area holds after its n-th loss (R91: "the whole retained area is lost"): the
spec states no contents (log 9). -/
opaque Config.lostRetained : Nat → Machine.Retained

/-- How many bytes a ready port sends in the n-th microsecond: the spec gives no rate (log 8). -/
opaque Config.bytesLeaving : Machine.ExitPort → Nat → Nat

end Sys2Proof
end

