-- ==== Sys2Proof/Machine/StartValues.lean ====
section
/-!
DEFINITION. The values that every start gives the blocks of the part, each as its chapter's table of
start values states them.
-/
namespace Sys2Proof.Machine

/-- An image of `n` zero bytes: a vacant row (R51), a vacant step (R53), a blank payload (R176). -/
def zeros (n : Nat) : Image := List.replicate n 0

/-- R70: 256 vacant rows of 16 bytes, or 32 vacant steps of 12 bytes. -/
def vacantTable : Table → List Image
  | .service => List.replicate 256 (zeros 16)
  | .tariff => List.replicate 32 (zeros 12)

/-- R70: one machine of the Table Loader after any start. -/
def TableMachine.atStart (t : Table) : TableMachine where
  activeGen := 0
  active := vacantTable t
  stage := .idle
  sigReg := 0x7FFFFFFF
  lastSig := none
  commitDue := false

/-- R174: one output after any start; `ready` is the level of its ready line, an input. -/
def Output.atStart (ready : Bool) : Output where
  selected := 0
  saved := 0
  state := .idle
  entryWait := false
  viewed := false
  last := .none
  queue := []
  transfer := none
  ready := ready

/-- R88: the defaults, in force from a start until the read ends (R108). -/
def Installation.default : Installation where
  room := 0
  groups := List.replicate 8 0
  shedThr := 48
  resumeThr := 16
  trailerA := false
  trailerB := false
  billingHigh := 24
  fault := false

/-- R19: Input Merge and Unit Classifier after any start. -/
def InputMerge.atStart : InputMerge where
  feedIf := .awaiting
  feed := []
  asm := []
  localQ := []
  shed := .normal
  stamp := 0
  pref := .feed
  refs := []

/-- R50: the Time Base after any start. -/
def TimeBase.atStart : TimeBase where
  mono := 0
  divider := 0
  building := none

/-- R34: the Return Port after any start; `ready` is the level of its ready line, an input. -/
def ReturnPort.atStart (ready : Bool) : ReturnPort where
  resultSeq := 0
  billingSeq := 0
  inProgress := none
  ready := ready

/-- R40, R48: the Alert Unit after any start: TIME UNSET (code 13) alone is latched. -/
def AlertUnit.atStart : AlertUnit where
  latched := 0x2000
  levels := List.replicate 15 3
  sense := .rising
  mask := 0

/-- R87: Key Table and Descrambler after any start. -/
def KeyTable.atStart : KeyTable where
  slots := List.replicate 24 none
  loads := 0
  keystream := 0x7FFFFFFF

/-- R94, R124: the Lock Unit after any start. R124 states the membership NONE of a cold start; that of a
warm start until its start-up completion is the model's choice (log 30). -/
def LockUnit.atStart : LockUnit where
  state := .locked
  membership := .none

/-- R95: the retained area after a cold start. -/
def Retained.cold : Retained where
  tenancy := .vacant
  active := none
  waiting := none
  incoming := none
  purchases := []
  spentToday := 0
  billingDay := none
  nextPurchase := 1
  failures := 0
  records := []
  nextSerial := 1

end Sys2Proof.Machine
end

