-- ==== Sys2Proof/Machine/Operands.lean ====
section
/-!
DEFINITION. The formats of chapter 11: how the part reads the fields of units, directives, commands,
table images, key entries and the installation record, and how it writes the fields of the units it
emits. A reader of a directive or a command gives its operands, or `none` where the unit has a form
fault (R23) or a frame fault (R25).
-/
namespace Sys2Proof.Machine

/-! ### Bytes and fields (R175) -/

/-- R175: a field of more than one byte is an unsigned number, first byte most significant. -/
def beNat (bytes : List Byte) : Nat := bytes.foldl (fun n b => n * 256 + b.toNat) 0

/-- The field of `n` bytes at the offset `at_`. -/
def field (bytes : List Byte) (at_ n : Nat) : Nat := beNat ((bytes.drop at_).take n)

/-- The byte at an offset. -/
def byteAt (bytes : List Byte) (at_ : Nat) : Byte := bytes.getD at_ 0

/-- R175, R176: a number written as a field of `n` bytes, first byte most significant. -/
def beBytes : Nat → Nat → List Byte
  | 0, _ => []
  | n + 1, v => BitVec.ofNat 8 (v / 256 ^ n) :: beBytes n v

/-- The bytes at offsets `at_` to `at_ + n - 1` are all 0 (must-be-zero, R175). -/
def mbz (bytes : List Byte) (at_ n : Nat) : Bool := ((bytes.drop at_).take n).all (· == 0)

/-- R176: a body or record written into a payload of 124 bytes, the bytes beyond it 0. -/
def padPayload (bytes : List Byte) : List Byte := (bytes ++ zeros 124).take 124

/-- A flag as bit 0 or 1 of a number. -/
def bit (b : Bool) : Nat := if b then 1 else 0

/-! ### The carriage unit (R1, §11.2) -/

/-- §11.4: the key phase codes. -/
def keyPhaseOf (code : BitVec 2) : KeyPhase :=
  if code = 0 then .clear else if code = 1 then .phaseA else if code = 2 then .phaseB else .noMeaning

/-- §11.4: the key phase codes, written. -/
def KeyPhase.code : KeyPhase → BitVec 2
  | .clear => 0
  | .phaseA => 1
  | .phaseB => 2
  | .noMeaning => 3

/-- §11.2: the unit that the first 128 bytes after a unit-start indication hold. -/
def unitOfBytes (bytes : List Byte) : CarriageUnit where
  label := byteAt bytes 1 ++ (byteAt bytes 2).extractLsb' 4 4
  phase := keyPhaseOf ((byteAt bytes 2).extractLsb' 2 2)
  start := (byteAt bytes 2).getLsbD 1
  spare2 := (byteAt bytes 2).getLsbD 0
  sequence := (byteAt bytes 3).extractLsb' 4 4
  spare3 := (byteAt bytes 3).extractLsb' 0 4
  payload := (bytes.drop 4).take 124

/-- §11.2: the bytes of a unit: sync 0xB5, the header fields, the payload. -/
def CarriageUnit.bytes (u : CarriageUnit) : List Byte :=
  [0xB5,
   u.label.extractLsb' 4 8,
   u.label.extractLsb' 0 4 ++ u.phase.code ++ BitVec.ofBool u.start ++ BitVec.ofBool u.spare2,
   u.sequence ++ u.spare3] ++ u.payload

/-- R32: a unit that the return port sends: key phase CLEAR, start flag clear, spare bits zero. -/
def returnUnit (label : BitVec 12) (sequence : BitVec 4) (payload : List Byte) : CarriageUnit where
  label := label
  phase := .clear
  start := false
  spare2 := false
  sequence := sequence
  spare3 := 0
  payload := padPayload payload

/-- R2: the labels of management units on the building feed. -/
def isFeedManagement (label : Nat) : Bool := label == 4080 || label == 4088 || label == 4095

/-- R2: a header fault of a unit taken from the Building Feed FIFO. -/
def feedHeaderFault (u : CarriageUnit) : Bool :=
  u.phase == .noMeaning || (isFeedManagement u.label.toNat && u.phase != .clear)

/-- R2: a header fault of a unit taken from the Local Insert FIFO. -/
def localHeaderFault (u : CarriageUnit) : Bool :=
  u.phase == .noMeaning || (u.label.toNat == 4094 && u.phase != .clear)

/-- A service label (R13): the labels a row, an output or an emergency can name. -/
def isServiceLabel (label : Nat) : Bool := decide (1 ≤ label) && decide (label ≤ 4079)

/-! ### Codes of §11.4 that the part writes -/

/-- Result codes (§11.4). -/
def ResultCode.code : ResultCode → Byte
  | .done => 0
  | .badForm => 1
  | .noService => 2
  | .notFilm => 3
  | .already => 4
  | .purchasesFull => 5
  | .billingFull => 6
  | .limit => 7
  | .locked => 8
  | .barred => 9
  | .outOfWindow => 10
  | .wrongPin => 11
  | .lockedOut => 12
  | .noPin => 13
  | .vacant => 14
  | .timeUnset => 15
  | .override => 16
  | .closing => 17

/-- Verdicts (§11.4). -/
def Verdict.code : Verdict → Byte
  | .none => 0
  | .pass => 1
  | .passOverride => 2
  | .noService => 3
  | .notEntitled => 4
  | .notPurchased => 5
  | .locked => 6
  | .barred => 7
  | .outOfWindow => 8
  | .noKey => 9
  | .entryWait => 10

/-- End reasons (§11.4). -/
def EndReason.code : EndReason → Nat
  | .complete => 1
  | .lapsed => 2
  | .limit => 3
  | .queue => 4
  | .void => 5
  | .tenancy => 6
  | .power => 7

/-- Output states (§11.4). -/
def OutputState.code : OutputState → Nat
  | .idle => 1
  | .waiting => 2
  | .passing => 3
  | .entryWait => 4
  | .blanked => 5

/-- Tenancy states (§11.4). -/
def Tenancy.code : Tenancy → Nat
  | .vacant => 1
  | .occupied => 2
  | .closing => 3

/-- Lock modes (§11.4). -/
def LockMode.code : LockMode → Nat
  | .off => 1
  | .pin => 2
  | .barred => 3

/-- Lock states (§11.4). -/
def LockState.code : LockState → Nat
  | .locked => 1
  | .unlocked _ => 2
  | .lockout _ => 3

/-- Stage states (§11.4). -/
def Stage.code : Stage → Nat
  | .idle => 1
  | .filling _ _ => 2
  | .checking _ _ _ _ => 3
  | .waiting _ _ _ => 4

/-- Senses (§11.4). -/
def Sense.code : Sense → Nat
  | .rising => 1
  | .falling => 2

/-- Shed states (§11.4). -/
def ShedState.code : ShedState → Nat
  | .normal => 1
  | .shedding => 2

/-! ### Directives (R20 to R24, §11.3) -/

/-- The directive kinds of §11.4. -/
inductive DirectiveKind where
  | tableOpen
  | tableRows
  | tableClose
  | roomRecord
  | tenancyChange
  | lockReset
  | purchaseVoid
  | billingReceipt
  | billingPoll
  | emergency
  deriving DecidableEq, Repr

/-- §11.4: the kind a code names; other codes have no meaning (R22). -/
def directiveKindOf (code : Byte) : Option DirectiveKind :=
  if code = 1 then some .tableOpen
  else if code = 2 then some .tableRows
  else if code = 3 then some .tableClose
  else if code = 4 then some .roomRecord
  else if code = 5 then some .tenancyChange
  else if code = 6 then some .lockReset
  else if code = 7 then some .purchaseVoid
  else if code = 8 then some .billingReceipt
  else if code = 9 then some .billingPoll
  else if code = 10 then some .emergency
  else none

/-- R21: the directive is addressed to a part with this room number and these group ids. -/
def addressedTo (room : Nat) (groups : List Nat) (payload : List Byte) : Bool :=
  let target := field payload 2 2
  if byteAt payload 1 = 1 then true
  else if byteAt payload 1 = 2 then
    decide (1 ≤ target) && decide (target ≤ 4095) && groups.contains target
  else if byteAt payload 1 = 3 then room != 0 && target == room
  else false

/-- The body of a directive: the payload from offset 8 (§11.3). -/
def directiveBody (payload : List Byte) : List Byte := payload.drop 8

/-- R23: the header of a directive whose body must be `length` bytes long passes the form check. -/
def directiveHeaderOk (payload : List Byte) (length : Nat) : Bool :=
  mbz payload 5 3 && !(byteAt payload 1 == 1 && field payload 2 2 != 0)
    && (byteAt payload 4).toNat == length && decide (length ≤ 116)

/-- §11.4: the table codes. -/
def tableOf (code : Byte) : Option Table :=
  if code = 1 then some .service else if code = 2 then some .tariff else none

/-- R51, R53: the bytes of one image of a table. -/
def imageSize : Table → Nat
  | .service => 16
  | .tariff => 12

/-- R51, R53: the rows or steps of a table. -/
def tableSize : Table → Nat
  | .service => 256
  | .tariff => 32

/-- R58: the most images one TABLE ROWS carries. -/
def maxImages : Table → Nat
  | .service => 6
  | .tariff => 9

/-- `n` images of `size` bytes each, from the start of `bytes` on. -/
def images (size : Nat) : Nat → List Byte → List Image
  | 0, _ => []
  | n + 1, bytes => bytes.take size :: images size n (bytes.drop size)

/-- TABLE OPEN: its table and generation (R56, R57). -/
def readTableOpen (payload : List Byte) : Option (Table × Nat) :=
  let body := directiveBody payload
  match tableOf (byteAt body 0) with
  | some t =>
    if directiveHeaderOk payload 4 && mbz body 1 1 && field body 2 2 != 0 then some (t, field body 2 2)
    else none
  | none => none

/-- The operands of TABLE ROWS (R58). -/
structure RowsOperands where
  table : Table
  generation : Nat
  first : Nat
  rows : List Image
  deriving DecidableEq, Repr

/-- TABLE ROWS: its images are not examined (R58). -/
def readTableRows (payload : List Byte) : Option RowsOperands :=
  let body := directiveBody payload
  let first := (byteAt body 1).toNat
  let count := (byteAt body 4).toNat
  match tableOf (byteAt body 0) with
  | some t =>
    if decide (1 ≤ count) && decide (count ≤ maxImages t)
        && directiveHeaderOk payload (6 + imageSize t * count)
        && mbz body 5 1 && field body 2 2 != 0 && decide (first + count ≤ tableSize t) then
      some { table := t, generation := field body 2 2, first := first,
             rows := images (imageSize t) count (body.drop 6) }
    else none
  | none => none

/-- The operands of TABLE CLOSE (R59). -/
structure CloseOperands where
  table : Table
  generation : Nat
  expected : Nat
  activation : Option BuildingTime
  deriving DecidableEq, Repr

/-- TABLE CLOSE (R59). -/
def readTableClose (payload : List Byte) : Option CloseOperands :=
  let body := directiveBody payload
  let expected := field body 4 4
  let day := field body 8 2
  let second := field body 10 4
  match tableOf (byteAt body 0) with
  | some t =>
    if directiveHeaderOk payload 16 && mbz body 14 2 && field body 2 2 != 0
        && decide (expected < 2147483648) && decide (second ≤ 86399) then
      if byteAt body 1 = 1 then
        some { table := t, generation := field body 2 2, expected := expected,
               activation := some { day := BitVec.ofNat 16 day, second := second } }
      else if byteAt body 1 = 0 && day == 0 && second == 0 then
        some { table := t, generation := field body 2 2, expected := expected, activation := none }
      else none
    else none
  | none => none

/-- §11.4: the lock mode codes. -/
def lockModeOf (code : Byte) : Option LockMode :=
  if code = 1 then some .off else if code = 2 then some .pin else if code = 3 then some .barred else none

/-- R98: the PIN of a ROOM RECORD body: the outer `none` is a form fault. -/
def readPin (body : List Byte) : Option (Option Pin) :=
  let d (i : Nat) : Nat := (byteAt body (11 + i)).toNat
  if byteAt body 10 = 1 then
    if decide (d 0 ≤ 9) && decide (d 1 ≤ 9) && decide (d 2 ≤ 9) && decide (d 3 ≤ 9) then
      some (some { d1 := d 0, d2 := d 1, d3 := d 2, d4 := d 3 })
    else none
  else if byteAt body 10 = 0 && mbz body 11 4 then some none
  else none

/-- R98: the adult window of a ROOM RECORD body: the outer `none` is a form fault. -/
def readWindow (body : List Byte) : Option (Option Window) :=
  let opens := field body 18 4
  let closes := field body 22 4
  if byteAt body 15 = 1 then
    if decide (opens ≤ 86399) && decide (closes ≤ 86399) && opens != closes then
      some (some { opens := opens, closes := closes })
    else none
  else if byteAt body 15 = 0 && mbz body 18 8 then some none
  else none

/-- §11.4: the room record slot codes; `true` is ACTIVE, `false` PENDING. -/
def slotOf (code : Byte) : Option Bool :=
  if code = 1 then some true else if code = 2 then some false else none

/-- ROOM RECORD: whether it names the ACTIVE slot, and its record (R98). -/
def readRoomRecord (payload : List Byte) : Option (Bool × RoomRecord) :=
  let body := directiveBody payload
  let threshold := (byteAt body 9).toNat
  let session := field body 16 2
  match slotOf (byteAt body 0), lockModeOf (byteAt body 8), readPin body, readWindow body with
  | some active, some mode, some pin, some window =>
    if directiveHeaderOk payload 36 && mbz body 1 1 && mbz body 34 2 && field body 2 2 != 0
        && decide (1 ≤ threshold) && decide (threshold ≤ 7)
        && decide (60 ≤ session) && decide (session ≤ 28800)
        && decide (field body 26 4 ≤ 999999) && decide (field body 30 4 ≤ 86399) then
      some (active,
        { tenancyId := field body 2 2
          packages := BitVec.ofNat 32 (field body 4 4)
          lockMode := mode
          threshold := threshold
          pin := pin
          session := session
          window := window
          spendLimit := field body 26 4
          billingDayStart := field body 30 4 })
    else none
  | _, _, _, _ => none

/-- TENANCY CHANGE and LOCK RESET: no operands (R102, R118). -/
def readNoBody (payload : List Byte) : Option Unit :=
  if directiveHeaderOk payload 0 then some () else none

/-- PURCHASE VOID, BILLING RECEIPT, BILLING POLL: a film id or serial other than 0 (R144, R154,
R155). -/
def readNumber (payload : List Byte) : Option Nat :=
  let body := directiveBody payload
  if directiveHeaderOk payload 4 && mbz body 2 2 && field body 0 2 != 0 then some (field body 0 2)
  else none

/-- EMERGENCY ON: the emergency label (R171). -/
def readEmergencyOn (payload : List Byte) : Option Nat :=
  let body := directiveBody payload
  if directiveHeaderOk payload 4 && mbz body 1 1 && byteAt body 0 == 1
      && isServiceLabel (field body 2 2) then some (field body 2 2)
  else none

/-- EMERGENCY OFF: its label is 0 (R171). -/
def readEmergencyOff (payload : List Byte) : Option Unit :=
  let body := directiveBody payload
  if directiveHeaderOk payload 4 && mbz body 1 1 && byteAt body 0 == 2 && field body 2 2 == 0 then
    some ()
  else none

/-! ### Table images (§11.3) -/

/-- §11.4: the access kind codes. -/
def accessKindOf (code : Byte) : AccessKind :=
  if code = 1 then .openToAll else if code = 2 then .package else if code = 3 then .film else .noMeaning

/-- §11.3: the fields of a Service Table row image. -/
def rowOf (image : Image) : ServiceRow where
  label := field image 0 2
  access := accessKindOf (byteAt image 2)
  rating := (byteAt image 3).toNat
  package := (byteAt image 4).toNat
  film := field image 6 2
  tariffStart := (byteAt image 8).toNat
  tariffCount := (byteAt image 9).toNat
  grace := field image 10 2
  ceiling := field image 12 4

/-- R62: what a row image of the Service Table must satisfy by itself. -/
def rowImageOk (image : Image) : Bool :=
  let r := rowOf image
  let noPackage := r.package == 0
  let noFilm := r.film == 0 && r.tariffStart == 0 && r.tariffCount == 0 && r.grace == 0 && r.ceiling == 0
  if r.label = 0 then image.all (· == 0)
  else
    isServiceLabel r.label && decide (r.rating ≤ 7) && mbz image 5 1
      && (match r.access with
        | .openToAll => noPackage && noFilm
        | .package => decide (r.package ≤ 31) && noFilm
        | .film =>
          noPackage && r.film != 0 && decide (r.tariffStart ≤ 31)
            && decide (1 ≤ r.tariffCount) && decide (r.tariffCount ≤ 8)
            && decide (r.grace ≤ 900) && decide (r.ceiling ≤ 999999)
        | .noMeaning => false)

/-- R62: a Service Table stage passes validation. -/
def serviceStageOk (rows : List Image) : Bool :=
  let live := (rows.map rowOf).filter (fun r => r.label != 0)
  rows.all rowImageOk
    && decide (live.map (·.label)).Nodup
    && decide ((live.filter (fun r => r.access == .film)).map (·.film)).Nodup

/-- §11.4: the measure codes. -/
def measureOf (code : Byte) : Option Measure :=
  if code = 1 then some .elapsed else if code = 2 then some .viewed else none

/-- R53: a step whose bytes are all 0 is vacant. -/
def isVacantStep (image : Image) : Bool := image.all (· == 0)

/-- R63: what a step image of the Tariff Store must satisfy. -/
def stepImageOk (image : Image) : Bool :=
  isVacantStep image
    || (decide (1 ≤ field image 0 4) && decide (field image 0 4 ≤ 1048575)
      && (measureOf (byteAt image 4)).isSome
      && decide (field image 6 3 ≤ 99999) && decide (field image 9 2 ≤ 9999) && mbz image 11 1)

/-- R63: a Tariff Store stage passes validation. -/
def tariffStageOk (rows : List Image) : Bool := rows.all stepImageOk

/-- R62, R63: the validation of a table's stage. -/
def stageOk : Table → List Image → Bool
  | .service => serviceStageOk
  | .tariff => tariffStageOk

/-- R54: the copy of a step; a vacant one has duration 1, measure ELAPSED and charges nothing. -/
def stepOf (image : Image) : TariffStep :=
  if isVacantStep image then
    { duration := 1, measure := .elapsed, charge := 0, repeats := 0, increment := 0 }
  else
    { duration := field image 0 4
      measure := (measureOf (byteAt image 4)).getD .elapsed
      charge := field image 6 3
      repeats := (byteAt image 5).toNat
      increment := field image 9 2 }

/-! ### Key units and time marks (§11.3) -/

/-- A key entry (R72). -/
structure KeyEntry where
  label : Nat
  package : Nat
  house : Bool
  /-- The phase: `false` PHASE A, `true` PHASE B. -/
  phaseB : Bool
  word : BitVec 64
  deriving DecidableEq, Repr

/-- R72: a well-formed key entry; a malformed one gives `none`. -/
def readKeyEntry (bytes : List Byte) : Option KeyEntry :=
  let flags := byteAt bytes 3
  if isServiceLabel (field bytes 0 2) && decide ((byteAt bytes 2).toNat ≤ 31)
      && flags.extractLsb' 1 6 == 0 then
    some { label := field bytes 0 2
           package := (byteAt bytes 2).toNat
           house := flags.getLsbD 7
           phaseB := flags.getLsbD 0
           word := BitVec.ofNat 64 (field bytes 4 8) }
  else none

/-- R71: the well-formed entries of a key unit, first to last; a malformed key unit has none. -/
def readKeyUnit (payload : List Byte) : List KeyEntry :=
  let count := (byteAt payload 0).toNat
  if decide (1 ≤ count) && decide (count ≤ 9) && mbz payload 1 3 then
    (images 12 count (payload.drop 4)).filterMap readKeyEntry
  else []

/-- R44: the building time of a time mark that passes the check. -/
def readTimeMark (payload : List Byte) : Option BuildingTime :=
  if decide (field payload 2 4 ≤ 86399) && mbz payload 6 2 then
    some { day := BitVec.ofNat 16 (field payload 0 2), second := field payload 2 4 }
  else none

/-! ### Local commands (R25, §11.3) -/

/-- The command kinds of §11.4. -/
inductive CommandKind where
  | select
  | purchase
  | pinEntry
  | relock
  | query
  | alertSetup
  | alertClear
  deriving DecidableEq, Repr

/-- §11.4: the kind a code names; other codes have no meaning (R25). -/
def commandKindOf (code : Byte) : Option CommandKind :=
  if code = 1 then some .select
  else if code = 2 then some .purchase
  else if code = 3 then some .pinEntry
  else if code = 4 then some .relock
  else if code = 5 then some .query
  else if code = 6 then some .alertSetup
  else if code = 7 then some .alertClear
  else none

/-- The body of a command: the payload from offset 4 (§11.3). -/
def commandBody (payload : List Byte) : List Byte := payload.drop 4

/-- R25: the header of a command whose body must be `length` bytes long has no frame fault. -/
def commandHeaderOk (payload : List Byte) (length : Nat) : Bool :=
  (byteAt payload 2).toNat == length && mbz payload 3 1

/-- SELECT: the output and the label, whatever its value (R25, R161). -/
def readSelect (payload : List Byte) : Option (OutputId × Nat) :=
  let body := commandBody payload
  if commandHeaderOk payload 4 && mbz body 1 1 then
    if byteAt body 0 = 1 then some (.a, field body 2 2)
    else if byteAt body 0 = 2 then some (.b, field body 2 2)
    else none
  else none

/-- PURCHASE: the label, whatever its value (R25, R128). -/
def readPurchase (payload : List Byte) : Option Nat :=
  let body := commandBody payload
  if commandHeaderOk payload 4 && mbz body 2 2 then some (field body 0 2) else none

/-- PIN ENTRY: four digits 0–9 (R25, R114). -/
def readPinEntry (payload : List Byte) : Option Pin :=
  let body := commandBody payload
  let d (i : Nat) : Nat := (byteAt body i).toNat
  if commandHeaderOk payload 4
      && decide (d 0 ≤ 9) && decide (d 1 ≤ 9) && decide (d 2 ≤ 9) && decide (d 3 ≤ 9) then
    some { d1 := d 0, d2 := d 1, d3 := d 2, d4 := d 3 }
  else none

/-- RELOCK: no operands (R117). -/
def readRelock (payload : List Byte) : Option Unit :=
  if commandHeaderOk payload 0 then some () else none

/-- The views of QUERY (§11.4). -/
inductive View where
  | outputs
  | purchases
  | lock
  | clock
  | tables
  | keys
  | billing
  | fifos
  | alerts
  deriving DecidableEq, Repr

/-- §11.4: the query view codes. -/
def viewOf (code : Byte) : Option View :=
  if code = 1 then some .outputs
  else if code = 2 then some .purchases
  else if code = 3 then some .lock
  else if code = 4 then some .clock
  else if code = 5 then some .tables
  else if code = 6 then some .keys
  else if code = 7 then some .billing
  else if code = 8 then some .fifos
  else if code = 9 then some .alerts
  else none

/-- QUERY: the view (R25, R29). -/
def readQuery (payload : List Byte) : Option View :=
  let body := commandBody payload
  if commandHeaderOk payload 4 && mbz body 1 3 then viewOf (byteAt body 0) else none

/-- §11.4: the sense codes. -/
def senseOf (code : Byte) : Option Sense :=
  if code = 1 then some .rising else if code = 2 then some .falling else none

/-- The operands of ALERT SETUP (R38). -/
structure SetupOperands where
  mask : Nat
  sense : Sense
  levels : List Nat
  deriving DecidableEq, Repr

/-- R38: fifteen level bytes as numbers. -/
def levelBytes (bytes : List Byte) (at_ : Nat) : List Nat :=
  (List.range 15).map fun k => (byteAt bytes (at_ + k)).toNat

/-- R35: a level of an adjustable source. -/
def levelOk (n : Nat) : Bool := decide (1 ≤ n) && decide (n ≤ 6)

/-- ALERT SETUP (R38). -/
def readAlertSetup (payload : List Byte) : Option SetupOperands :=
  let body := commandBody payload
  match senseOf (byteAt body 1) with
  | some sense =>
    if commandHeaderOk payload 20 && decide ((byteAt body 0).toNat ≤ 7)
        && (levelBytes body 2).all levelOk && mbz body 17 3 then
      some { mask := (byteAt body 0).toNat, sense := sense, levels := levelBytes body 2 }
    else none
  | none => none

/-- ALERT CLEAR: the set of sources; bits 16–31 are must-be-zero (R39). -/
def readAlertClear (payload : List Byte) : Option (BitVec 16) :=
  let body := commandBody payload
  if commandHeaderOk payload 4 && decide (field body 0 4 < 65536) then
    some (BitVec.ofNat 16 (field body 0 4))
  else none

/-! ### The installation record (R88, §11.3) -/

/-- R89: a byte of the serial memory; a memory that does not answer reads 0xFF. -/
def memoryByte (memory : List Byte) (at_ : Nat) : Byte := memory.getD at_ 0xFF

/-- R89: the 68 bytes of the read. -/
def memoryBytes (memory : List Byte) : List Byte := (List.range 68).map (memoryByte memory)

/-- R88: a group entry above 4,095 is treated as unused. -/
def groupOf (n : Nat) : Nat := if n ≤ 4095 then n else 0

/-- R8: the pair of thresholds in force, 48 and 16 for a pair outside the ranges. -/
def thresholdsOf (shedThr resumeThr : Nat) : Nat × Nat :=
  if 8 ≤ shedThr ∧ shedThr ≤ 63 ∧ resumeThr < shedThr then (shedThr, resumeThr) else (48, 16)

/-- R88: the fields of a record whose signature passes, each out-of-range one at its default. -/
def readInstallation (record : List Byte) : Installation where
  room := field record 0 2
  groups := (images 2 8 (record.drop 2)).map (fun b => groupOf (beNat b))
  shedThr := (thresholdsOf (byteAt record 18).toNat (byteAt record 19).toNat).1
  resumeThr := (thresholdsOf (byteAt record 18).toNat (byteAt record 19).toNat).2
  trailerA := byteAt record 20 == 1
  trailerB := byteAt record 21 == 1
  billingHigh :=
    if 1 ≤ (byteAt record 22).toNat ∧ (byteAt record 22).toNat ≤ 31 then (byteAt record 22).toNat
    else 24
  fault := false

/-- R88: the sense of the record, RISING for a code with no meaning. -/
def readSense (record : List Byte) : Sense := (senseOf (byteAt record 23)).getD .rising

/-- R88: the levels of the record, 3 for a level outside 1–6. -/
def readLevels (record : List Byte) : List Nat :=
  (levelBytes record 24).map (fun n => if levelOk n then n else 3)

/-! ### Registers of 31 stages (R68, R85) -/

/-- R68: one step of the signature register; stage k is bit k − 1. -/
def sigStep (r : Register31) (input : Bool) : Register31 :=
  let new := input ^^ r.getLsbD 30 ^^ r.getLsbD 27
  (r <<< 1) ||| (BitVec.ofBool new).setWidth 31

/-- R68: a byte fed as eight input bits, most significant first. -/
def sigByte (r : Register31) (b : Byte) : Register31 :=
  [7, 6, 5, 4, 3, 2, 1, 0].foldl (fun r i => sigStep r (b.getLsbD i)) r

/-- R68: the seed. -/
def sigSeed : Register31 := 0x7FFFFFFF

/-- R68: the signature of an image, from the seed. -/
def signature (bytes : List Byte) : Register31 := bytes.foldl sigByte sigSeed

/-- R89: the read passes: the stored signature's most significant bit is 0 and the rest is the
signature of the 64 record bytes. -/
def readPasses (bytes : List Byte) : Bool :=
  field bytes 64 4 == (signature (bytes.take 64)).toNat

/-- R85: the seed of the keystream of a unit. -/
def keystreamSeed (word : BitVec 64) (label : BitVec 12) (sequence : BitVec 4) : Register31 :=
  let high : BitVec 32 := word.extractLsb' 32 32
  let low : BitVec 32 := word.extractLsb' 0 32
  let t : BitVec 32 := (label ++ sequence).setWidth 32
  let seed : Register31 := (high ^^^ low ^^^ t).setWidth 31
  if seed = 0 then sigSeed else seed

/-- R85: the register after the eight steps of a byte, with no input; its low eight bits are the
keystream byte, the first new bit most significant. -/
def keystreamByte (r : Register31) : Register31 := sigByte r 0

/-- R85: the payload under the keystream, and the register after it. -/
def descrambleBytes (r : Register31) : List Byte → List Byte × Register31
  | [] => ([], r)
  | b :: rest =>
    let r' := keystreamByte r
    let (out, last) := descrambleBytes r' rest
    ((b ^^^ r'.setWidth 8) :: out, last)

end Sys2Proof.Machine
end

