-- ==== Sys2Proof/Machine/State.lean ====
section
/-!
DEFINITION. The state of the BW-3216, the reasons a step can stop, and the part as it stands right
after the writes of a cold start, with the installation read in progress (log 2).
-/
namespace Sys2Proof.Machine

/-- The BW-3216, block by block. -/
structure State where
  /-- Supplies, reset line, phase of the start, validity word (R89 to R95). -/
  power : Power
  /-- The retained area (R91). -/
  ret : Retained
  /-- The installation record's values in force (R88, R90). -/
  install : Installation
  /-- The Tenancy Unit's own signature register (R89; log 17). -/
  readSig : Register31
  /-- Input Merge and Unit Classifier (R19). -/
  merge : InputMerge
  /-- Time Base (R50). -/
  time : TimeBase
  /-- Result Queue, oldest first (R28). -/
  results : List Result
  /-- Return Port (R32 to R34). -/
  port : ReturnPort
  /-- Alert Unit (R35). -/
  alerts : AlertUnit
  /-- The Service Table machine (R55). -/
  svc : TableMachine
  /-- The Tariff Store machine (R55). -/
  tar : TableMachine
  /-- Key Table and Descrambler (R87). -/
  keys : KeyTable
  /-- Lock Unit (R124); the failures count is retained. -/
  lock : LockUnit
  /-- The completion expiry of a CLOSING tenancy (R103, R105). -/
  closing : Option Word32
  /-- Output A (R159). -/
  outA : Output
  /-- Output B (R159). -/
  outB : Output
  /-- The emergency label while the override is active (R159). -/
  emergency : Option Nat
  /-- The offer position of the Billing Queue: the serial of the record it names (R151). -/
  offer : Option Nat
  /-- The model's own free choices and counts (logs 4, 5, 8). -/
  model : Schedule
  /-- The commands that wait, first in, first out. -/
  pending : List Instr
  deriving DecidableEq, Repr

/-- The faults of a step. There are none: the spec gives every command of the part its effect, and
malformed input is discarded, answered BAD FORM or reported by DIRECTIVE FAULT. -/
inductive Fault where
  deriving DecidableEq, Repr

/-- The refusals of a step. -/
inductive Refusal where
  /-- A row without a meaning; raised by an arm of `exec` only. No arm raises it. Safe. -/
  | notModelled (mnemonic : String)
  deriving DecidableEq, Repr

/-- The part right after the writes of a cold start: every block at the value its chapter gives for
any start, the retained area as R95 gives it, the installation read in progress (log 2). -/
def State.reset : State where
  power :=
    { mainSupply := true, standbySupply := true, resetLow := false, phase := .reading,
      valid := true, losses := 0 }
  ret := Retained.cold
  install := Installation.default
  readSig := 0x7FFFFFFF
  merge := InputMerge.atStart
  time := TimeBase.atStart
  results := []
  port := ReturnPort.atStart false
  alerts := AlertUnit.atStart
  svc := TableMachine.atStart .service
  tar := TableMachine.atStart .tariff
  keys := KeyTable.atStart
  lock := LockUnit.atStart
  closing := none
  outA := Output.atStart false
  outB := Output.atStart false
  emergency := none
  offer := none
  model := { choices := [], due := [], windowFirst := false, drawn := 0 }
  pending := []

end Sys2Proof.Machine
end

