-- ==== Sys2Proof/Machine/Flags.lean ====
section
/-!
DEFINITION. The Alert Unit: the latched flags, the conditions of the level sources, and the alert
line (R35 to R39).
-/
namespace Sys2Proof.Machine

/-- §11.4: the alert source codes. -/
def AlertSource.code : AlertSource → Nat
  | .feedOverflow => 0
  | .insetShed => 1
  | .feedGap => 2
  | .outputOverrun => 3
  | .keyTableFull => 4
  | .tableRejected => 5
  | .tableCommitted => 6
  | .directiveFault => 7
  | .tenancyChanged => 8
  | .lockout => 9
  | .sessionEnded => 10
  | .purchaseEnded => 11
  | .billingHigh => 12
  | .timeUnset => 13
  | .installationFault => 14
  | .emergency => 15

/-- The sixteen sources in code order. -/
def AlertSource.all : List AlertSource :=
  [.feedOverflow, .insetShed, .feedGap, .outputOverrun, .keyTableFull, .tableRejected,
   .tableCommitted, .directiveFault, .tenancyChanged, .lockout, .sessionEnded, .purchaseEnded,
   .billingHigh, .timeUnset, .installationFault, .emergency]

/-- R176: the set of one source. -/
def AlertSource.mask (src : AlertSource) : BitVec 16 := BitVec.ofNat 16 (2 ^ src.code)

/-- R35: the flag of a source is set. -/
def AlertUnit.isLatched (a : AlertUnit) (src : AlertSource) : Bool := a.latched.getLsbD src.code

/-- R35: an event of a source latches it; a flag already set stays set. -/
def AlertUnit.latch (a : AlertUnit) (src : AlertSource) : AlertUnit :=
  { a with latched := a.latched ||| src.mask }

/-- R35: a source latched where `b` says that its event came. -/
def AlertUnit.latchIf (a : AlertUnit) (b : Bool) (src : AlertSource) : AlertUnit :=
  { a with latched := a.latched ||| (if b then src.mask else 0) }

/-- R35: the level of a source; EMERGENCY is fixed at 7. -/
def AlertUnit.level (a : AlertUnit) (src : AlertSource) : Nat :=
  if src = .emergency then 7 else a.levels.getD src.code 3

/-- R37: the alert line is asserted. -/
def AlertUnit.line (a : AlertUnit) : Bool :=
  AlertSource.all.any fun src =>
    a.isLatched src && (decide (a.mask < a.level src) || a.level src == 7)

/-- R37: the alert line of the part; ALERT_N is low when it is asserted (§11.5). -/
def alertLine (s : State) : Bool := s.alerts.line

/-- The lock is in LOCKOUT. -/
def LockState.isLockout : LockState → Bool
  | .lockout _ => true
  | .locked => false
  | .unlocked _ => false

/-- R36: the condition of a level source holds; an edge source has none. -/
def conditionHolds (s : State) : AlertSource → Bool
  | .insetShed => s.merge.shed == .shedding
  | .lockout => s.lock.state.isLockout
  | .timeUnset => s.time.building.isNone
  | .installationFault => s.install.fault
  | .emergency => s.emergency.isSome
  | .feedOverflow => false
  | .feedGap => false
  | .outputOverrun => false
  | .keyTableFull => false
  | .tableRejected => false
  | .tableCommitted => false
  | .directiveFault => false
  | .tenancyChanged => false
  | .sessionEnded => false
  | .purchaseEnded => false
  | .billingHigh => false

/-- R31, R36: the set of the level sources whose condition holds. -/
def conditionSet (s : State) : BitVec 16 :=
  AlertSource.all.foldl (fun set src => set ||| (if conditionHolds s src then src.mask else 0)) 0

/-- Latches a source in the part. -/
def latch (src : AlertSource) (s : State) : State := { s with alerts := s.alerts.latch src }

/-- R39: the flags after a clear of the named set: a named source whose condition holds latches
again at once (R36). -/
def clearedFlags (s : State) (named : BitVec 16) : BitVec 16 :=
  (s.alerts.latched &&& ~~~named) ||| (named &&& conditionSet s)

end Sys2Proof.Machine
end

