-- ==== Sys2Proof/Machine/Ops.lean ====
section
/-!
DEFINITION. The operations that the commands share: starts, input FIFOs and shedding, results, tables,
admission and the admission purge, the lock, the Billing Queue, the Purchase Meter, the Key Table's
flushes, tenancy completion, and the delivery of events to their consumers.
-/
namespace Sys2Proof.Machine

/-! ### Supplies and starts (R89 to R96) -/

/-- The part is powered and the reset line is not held low, so its blocks take events (R93). -/
def live (s : State) : Bool := s.power.mainSupply && !s.power.resetLow

/-- The part is live and STARTING has ended (R89). -/
def running (s : State) : Bool := live s && s.power.phase == .running

/-- R158: a warm start clears every offered mark. -/
def Retained.marksCleared (r : Retained) : Retained :=
  { r with records := r.records.map fun rec => { rec with offered := false } }

/-- The serial of the oldest record, if there is one (R151). -/
def oldestSerial (records : List BillingRecord) : Option Nat := records.head?.map (·.serial)

/-- R92 to R96: a start. It is warm where the validity word holds its fixed value and cold otherwise;
a cold start begins its writes (R95, log 13), a warm start begins the installation read. Every block
takes the values its chapter gives for any start. A second event that a consumer still owes is lost to
that consumer (the model's choice, log 5), and a warm start's membership is NONE until the start-up
completion (the model's choice, log 30). The signature register of the installation read holds the seed
from the start on (the model's choice, log 17). -/
def makeStart (s : State) : State :=
  { s with
    power := { s.power with phase := if s.power.valid then .reading else .coldWrites }
    ret := if s.power.valid then s.ret.marksCleared else s.ret
    install := Installation.default
    readSig := sigSeed
    merge := InputMerge.atStart
    time := TimeBase.atStart
    results := []
    port := ReturnPort.atStart s.port.ready
    alerts := AlertUnit.atStart
    svc := TableMachine.atStart .service
    tar := TableMachine.atStart .tariff
    keys := KeyTable.atStart
    lock := LockUnit.atStart
    closing := none
    outA := Output.atStart s.outA.ready
    outB := Output.atStart s.outB.ready
    emergency := none
    offer := if s.power.valid then oldestSerial s.ret.records else none
    model := { s.model with due := [] } }

/-- R91: the retained area is lost where neither supply keeps it (log 9). -/
def loseRetained (s : State) : State :=
  { s with
    power := { s.power with valid := false, losses := s.power.losses + 1 }
    ret := Config.lostRetained s.power.losses }

/-! ### Time (R41 to R47) -/

/-- R43: building time one second later. -/
def BuildingTime.advance (t : BuildingTime) : BuildingTime :=
  if t.second < 86399 then { t with second := t.second + 1 } else { day := t.day + 1, second := 0 }

/-- R41, R43: the Time Base on a second event. -/
def TimeBase.second (t : TimeBase) : TimeBase where
  mono := t.mono + 1
  divider := 0
  building := t.building.map BuildingTime.advance

/-- R65: building time is at or past an activation time. -/
def BuildingTime.atOrPast (now due : BuildingTime) : Bool :=
  let d := (now.day - due.day).toNat
  if d = 0 then decide (due.second ≤ now.second) else decide (d ≤ 32767)

/-- R65: with building time UNSET no activation time is reached. -/
def reached (now : Option BuildingTime) (due : BuildingTime) : Bool :=
  match now with
  | some t => t.atOrPast due
  | none => false

/-! ### Tables (R51 to R54) -/

/-- R52: the row of the active Service Table that carries a label. Label 0 and the system labels have
none. -/
def serviceRow (s : State) (label : Nat) : Option ServiceRow :=
  if label = 0 then none else (s.svc.active.map rowOf).find? (fun r => r.label == label)

/-- R54: the tariff a row names: steps in index order from the tariff start, 31 followed by 0. -/
def tariffOf (s : State) (r : ServiceRow) : List TariffStep :=
  (List.range r.tariffCount).map fun i =>
    stepOf (s.tar.active.getD ((r.tariffStart + i) % 32) (zeros 12))

/-- The machine of a table. -/
def machine (s : State) : Table → TableMachine
  | .service => s.svc
  | .tariff => s.tar

/-- The part with the machine of a table replaced. -/
def withMachine (t : Table) (m : TableMachine) (s : State) : State :=
  { s with
    svc := if t = .service then m else s.svc
    tar := if t = .tariff then m else s.tar }

/-! ### Selections (R15, R16) -/

/-- An output of the part. -/
def output (s : State) : OutputId → Output
  | .a => s.outA
  | .b => s.outB

/-- The part with an output replaced. -/
def withOutput (o : OutputId) (out : Output) (s : State) : State :=
  { s with
    outA := if o = .a then out else s.outA
    outB := if o = .b then out else s.outB }

/-- A label is selected on either output. -/
def isSelected (s : State) (label : Nat) : Bool :=
  s.outA.selected == label || s.outB.selected == label

/-- R16: after a change of selection, the references of the labels given and of the labels no longer
selected are removed. A label that leaves one output while the other still selects it keeps its reference
(DEDUCED, log 31: "ceases to be selected on either output" is read as selected on neither). -/
def dropReferences (given : List Nat) (s : State) : State :=
  { s with
    merge := { s.merge with
      refs := s.merge.refs.filter fun r => !given.contains r.label && isSelected s r.label } }

/-! ### Shedding (R7 to R9) -/

/-- R7: the shed state an evaluation finds. -/
def shedAfter (s : State) : ShedState :=
  match s.merge.shed with
  | .normal => if s.install.shedThr ≤ s.merge.feed.length then .shedding else .normal
  | .shedding => if s.merge.feed.length ≤ s.install.resumeThr then .normal else .shedding

/-- R9: the evaluation raises the shed-ended event. -/
def shedEnds (s : State) : Bool := s.merge.shed == .shedding && shedAfter s == .normal

/-- R7, R9: the evaluation of the shed state. -/
def evalShed (s : State) : State :=
  { s with
    merge := { s.merge with
      shed := shedAfter s
      refs :=
        if shedEnds s then
          s.merge.refs.filter fun r =>
            !(r.label == s.outB.selected && r.label != s.outA.selected)
        else s.merge.refs }
    outB := { s.outB with entryWait := s.outB.entryWait || shedEnds s }
    alerts := s.alerts.latchIf (s.merge.shed == .normal && shedAfter s == .shedding) .insetShed }

/-! ### The Classifier takes a unit (R11, R12) -/

/-- R10, R11: the Local Insert FIFO is eligible: it holds a unit and the Result Queue is not full. -/
def localEligible (s : State) : Bool := !s.merge.localQ.isEmpty && decide (s.results.length < 8)

/-- R11, R12: the unit that the Classifier takes next, where it takes one from the building feed. -/
def feedHead (s : State) : Option StampedUnit :=
  if running s && (!localEligible s || s.merge.pref == .feed) then s.merge.feed.head? else none

/-- R11, R12: the unit that the Classifier takes next, where it takes one from the local insert. -/
def localHead (s : State) : Option StampedUnit :=
  if running s && localEligible s && (s.merge.feed.isEmpty || s.merge.pref == .localInsert) then
    s.merge.localQ.head?
  else none

/-- R6, R7, R11: the head of the Building Feed FIFO leaves, the preference moves away, and the shed
state is evaluated at the new occupancy (log 15). -/
def tookFeed (s : State) : State :=
  evalShed { s with merge := { s.merge with feed := s.merge.feed.tail, pref := .localInsert } }

/-- R10, R11: the head of the Local Insert FIFO leaves and the preference moves away. -/
def tookLocal (s : State) : State :=
  { s with merge := { s.merge with localQ := s.merge.localQ.tail, pref := .feed } }

/-! ### Results (R26 to R28) -/

/-- R26: a result joins the tail of the Result Queue. -/
def pushResult (r : Result) (s : State) : State := { s with results := s.results ++ [r] }

/-- R26, R27: the result that answers the command in a unit. -/
def answer (payload : List Byte) (code : ResultCode) (body : List Byte) : Result where
  tag := byteAt payload 1
  kind := byteAt payload 0
  code := code
  body := body

/-! ### The guest, and billing time (R101, R49) -/

/-- R101: the record whose guest is in the room: the active record of an OCCUPIED tenancy. -/
def guest (s : State) : Option RoomRecord :=
  if s.ret.tenancy = .occupied then s.ret.active else none

/-- R75, R79, R162: the guest holds a package. -/
def holdsPackage (s : State) (package : Nat) : Bool :=
  match guest s with
  | some r => r.packages.getLsbD package
  | none => false

/-- R162: a live purchase carries a film id. -/
def isBought (s : State) (film : Nat) : Bool := s.ret.purchases.any (fun p => p.film == film)

/-! ### The lock test (R109 to R111) -/

/-- R111: a second of day is inside a window. -/
def Window.contains (w : Window) (second : Nat) : Bool :=
  if w.opens < w.closes then decide (w.opens ≤ second) && decide (second < w.closes)
  else decide (w.opens ≤ second) || decide (second < w.closes)

/-- R111: building time is inside a window; with building time UNSET it is not. -/
def insideWindow (building : Option BuildingTime) (w : Window) : Bool :=
  match building with
  | some t => w.contains t.second
  | none => false

/-- R109: a service of this rating class is restricted. -/
def restricted (s : State) (rating : Nat) : Bool :=
  match guest s with
  | some r => decide (r.threshold ≤ rating)
  | none => decide (1 ≤ rating)

/-- The lock is UNLOCKED. -/
def LockState.isUnlocked : LockState → Bool
  | .unlocked _ => true
  | .locked => false
  | .lockout _ => false

/-- R110: the lock test of a service of this rating class. -/
def lockTest (s : State) (rating : Nat) : Verdict :=
  if !restricted s rating then .pass
  else
    match guest s with
    | none => .locked
    | some r =>
      match r.lockMode with
      | .off => .pass
      | .barred => .barred
      | .pin =>
        if !s.lock.state.isUnlocked then .locked
        else
          match r.window with
          | none => .pass
          | some w => if insideWindow s.time.building w then .pass else .outOfWindow

/-! ### Admission and the admission purge (R162, R167) -/

/-- A verdict that passes a unit. -/
def Verdict.passes : Verdict → Bool
  | .pass => true
  | .passOverride => true
  | .none => false
  | .noService => false
  | .notEntitled => false
  | .notPurchased => false
  | .locked => false
  | .barred => false
  | .outOfWindow => false
  | .noKey => false
  | .entryWait => false

/-- R162, lines 2 to 7: the admission of a label by its row. -/
def admitRow (s : State) (row : Option ServiceRow) : Verdict :=
  match row with
  | none => .noService
  | some r =>
    match r.access with
    | .openToAll => lockTest s r.rating
    | .package => if holdsPackage s r.package then lockTest s r.rating else .notEntitled
    | .film => if isBought s r.film then lockTest s r.rating else .notPurchased
    | .noMeaning => .noService

/-- R162: the admission of a label. -/
def admissionOf (s : State) (label : Nat) : Verdict :=
  if s.emergency = some label then .passOverride else admitRow s (serviceRow s label)

/-- R164: the blank unit put in the place of a unit. -/
def CarriageUnit.blank (u : CarriageUnit) : CarriageUnit :=
  { u with phase := .clear, payload := zeros 124 }

/-- R167: a queued unit is blanked by a purge under the admission `adm`. -/
def purgeHits (adm : Nat → Verdict) (q : QueuedUnit) : Bool :=
  q.verdict.passes && !(adm q.unit.label.toNat).passes

/-- R167: a queued unit after a purge. -/
def purgeUnit (adm : Nat → Verdict) (q : QueuedUnit) : QueuedUnit :=
  if purgeHits adm q then { q with unit := q.unit.blank, verdict := adm q.unit.label.toNat } else q

/-- R167: an output after a purge. -/
def Output.purged (adm : Nat → Verdict) (out : Output) : Output :=
  let hit := out.queue.filter (purgeHits adm)
  { out with
    queue := out.queue.map (purgeUnit adm)
    entryWait := out.entryWait || !hit.isEmpty
    state := if hit.isEmpty then out.state else .blanked
    last := match hit.getLast? with
      | some q => adm q.unit.label.toNat
      | none => out.last }

/-- R167: the admission purge. -/
def purge (s : State) : State :=
  { s with outA := s.outA.purged (admissionOf s), outB := s.outB.purged (admissionOf s) }

/-! ### The Key Table's flushes (R79 to R83) -/

/-- R79: the slot test. -/
def slotOk (s : State) (slot : KeySlot) : Bool :=
  match serviceRow s slot.label with
  | none => false
  | some r =>
    match r.access with
    | .openToAll => slot.house
    | .package => !slot.house && holdsPackage s r.package
    | .film => !slot.house && isBought s r.film
    | .noMeaning => false

/-- The slots that satisfy a test, the others EMPTY. -/
def flushSlots (keep : KeySlot → Bool) (slots : List (Option KeySlot)) : List (Option KeySlot) :=
  slots.map fun slot => slot.bind fun k => if keep k then some k else none

/-- The Key Table flushes the slots that do not satisfy a test. -/
def flushKeys (keep : KeySlot → Bool) (s : State) : State :=
  { s with keys := { s.keys with slots := flushSlots keep s.keys.slots } }

/-- R80: the flush at the start of CLOSING keeps the house slots. -/
def flushAtClosing (s : State) : State := flushKeys (·.house) s

/-- R81: the flush on the active record changed event tests the slots of PACKAGE rows. -/
def keptByRecord (s : State) (slot : KeySlot) : Bool :=
  match serviceRow s slot.label with
  | some r => if r.access = .package then holdsPackage s r.package else true
  | none => true

/-- R82: the flush at the end of a purchase empties the slots of FILM rows of its film. -/
def keptByEnd (s : State) (film : Nat) (slot : KeySlot) : Bool :=
  match serviceRow s slot.label with
  | some r => !(r.access == .film && r.film == film)
  | none => true

/-! ### The Billing Queue (R149 to R156) -/

/-- R150: 65,535 is followed by 1. -/
def nextSerialAfter (serial : Nat) : Nat := if serial = 65535 then 1 else serial + 1

/-- R156: the occupancy goes from below the threshold to at or above it. -/
def risingCrossing (threshold before after : Nat) : Bool :=
  decide (before < threshold) && decide (threshold ≤ after)

/-- R156: the occupancy goes from at or above the threshold to below it. -/
def fallingCrossing (threshold before after : Nat) : Bool :=
  decide (threshold ≤ before) && decide (after < threshold)

/-- R35, R156: a change of occupancy latches BILLING HIGH. -/
def billingHighLatches (s : State) (before after : Nat) : Bool :=
  match s.alerts.sense with
  | .rising => risingCrossing s.install.billingHigh before after
  | .falling => fallingCrossing s.install.billingHigh before after

/-- R149: the record that the Billing Queue makes of what the Purchase Meter posts. -/
def newRecord (s : State) (entry : BillingEntry) (purchase film : Nat) : BillingRecord where
  serial := s.ret.nextSerial
  entry := entry
  room := s.install.room
  tenancyId := (s.ret.active.map (·.tenancyId)).getD 0
  purchase := purchase
  film := film
  day := (s.time.building.map (fun t => t.day.toNat)).getD 0
  second := (s.time.building.map (·.second)).getD 0
  timeUnknown := s.time.building.isNone
  offered := false

/-- R150, R151, R156: a record is posted. -/
def post (entry : BillingEntry) (purchase film : Nat) (s : State) : State :=
  { s with
    ret := { s.ret with
      records := s.ret.records ++ [newRecord s entry purchase film]
      nextSerial := nextSerialAfter s.ret.nextSerial }
    offer := match s.offer with
      | some serial => some serial
      | none => some s.ret.nextSerial
    alerts := s.alerts.latchIf
      (billingHighLatches s s.ret.records.length (s.ret.records.length + 1)) .billingHigh }

/-- A record of this serial is in the queue (R153, R154, R155). -/
def hasSerial (records : List BillingRecord) (serial : Nat) : Bool :=
  records.any (fun r => r.serial == serial)

/-- R154: the records newer than that of a serial. -/
def newerThan (serial : Nat) : List BillingRecord → List BillingRecord
  | [] => []
  | r :: rest => if r.serial = serial then rest else newerThan serial rest

/-! ### The Purchase Meter (R125 to R143) -/

/-- The live purchase of a number (R127: no two hold the same number). -/
def purchaseOf (s : State) (number : Nat) : Option Purchase :=
  s.ret.purchases.find? (fun p => p.number == number)

/-- The Purchase Table with the purchase of a number changed. -/
def changePurchase (number : Nat) (f : Purchase → Purchase) : List Purchase → List Purchase
  | [] => []
  | p :: rest => if p.number = number then f p :: rest else p :: changePurchase number f rest

/-- R82, R143: the consumers of the purchase end event: the Key Table and the admission purge. -/
def purchaseEnded (film : Nat) (s : State) : State :=
  purge (flushKeys (keptByEnd s film) s)

/-- R143: the end of a live purchase: its END record is posted, it leaves the table, PURCHASE ENDED
latches, and the purchase end event is raised. -/
def endPurchase (number : Nat) (reason : EndReason) (s : State) : State :=
  match purchaseOf s number with
  | none => s
  | some p =>
    let posted := post (.ended reason p.total) p.number p.film s
    purchaseEnded p.film (latch .purchaseEnded
      { posted with
        ret := { posted.ret with
          purchases := posted.ret.purchases.eraseP (fun q => q.number == number) } })

/-- R143: one event ends several purchases, one after another in the order of the Purchase Table. -/
def endAll (reason : EndReason) (s : State) : State :=
  (s.ret.purchases.map (·.number)).foldl (fun s n => endPurchase n reason s) s

/-- R129, R138: what the spend limit still allows. -/
def allowance (s : State) : Nat :=
  match guest s with
  | some r => r.spendLimit - s.ret.spentToday
  | none => 0

/-- The step copy at a position. -/
def stepAt (steps : List TariffStep) (position : Nat) : TariffStep :=
  steps.getD position
    { duration := 1, measure := .elapsed, charge := 0, repeats := 0, increment := 0 }

/-- R137: the ceiling clamps an amount. -/
def underCeiling (ceiling : Option Nat) (total amount : Nat) : Nat :=
  match ceiling with
  | some c => min amount (c - total)
  | none => amount

/-- R137: the amount charged when repetition `k` of the step copy at `position` begins. -/
def chargeAmount (p : Purchase) (position k : Nat) : Nat :=
  let step := stepAt p.steps position
  underCeiling p.ceiling p.total (step.charge + k * step.increment)

/-- R138: what becomes of a charge. -/
inductive ChargeFate where
  | free
  | overLimit
  | noPlace
  | posted
  deriving DecidableEq, Repr

/-- R138: the tests of a charge, in their order. -/
def chargeFate (s : State) (amount : Nat) : ChargeFate :=
  if amount = 0 then .free
  else if allowance s < amount then .overLimit
  else if 32 < s.ret.records.length + s.ret.purchases.length + 1 then .noPlace
  else .posted

/-- R138: a total saturates at 99,999,999. -/
def addTotal (total amount : Nat) : Nat := min (total + amount) 99999999

/-- R134, R135: the repetition of a purchase begins: RUNNING with the step's whole duration. -/
def setRunning (number position k : Nat) (amount : Nat) (s : State) : State :=
  { s with
    ret := { s.ret with
      purchases := changePurchase number
        (fun p => { p with
          state := .running position k (stepAt p.steps position).duration
          total := addTotal p.total amount })
        s.ret.purchases } }

/-- R137, R138: repetition `k` of the step copy at `position` begins with its charge; the charge may
end the purchase instead. -/
def beginRepetition (number position k : Nat) (s : State) : State :=
  match purchaseOf s number with
  | none => s
  | some p =>
    let amount := chargeAmount p position k
    match chargeFate s amount with
    | .free => setRunning number position k 0 s
    | .overLimit => endPurchase number .limit s
    | .noPlace => endPurchase number .queue s
    | .posted =>
      let charged := setRunning number position k amount s
      post (.charge amount position k) p.number p.film
        { charged with ret := { charged.ret with spentToday := charged.ret.spentToday + amount } }

/-- R131: the second is viewed for a film. -/
def isViewed (s : State) (film : Nat) : Bool :=
  let shows (out : Output) : Bool :=
    out.viewed && (match serviceRow s out.selected with
      | some r => r.access == .film && r.film == film
      | none => false)
  shows s.outA || shows s.outB

/-- The Purchase Table with the state of one purchase changed. -/
def setPurchaseState (number : Nat) (state : PurchaseState) (s : State) : State :=
  { s with
    ret := { s.ret with
      purchases := changePurchase number (fun p => { p with state := state }) s.ret.purchases } }

/-- R134, R135: one live purchase on a second event, `viewed` or not. -/
def meterPurchase (number : Nat) (viewed : Bool) (s : State) : State :=
  match purchaseOf s number with
  | none => s
  | some p =>
    match p.state with
    | .grace needed seen lapse =>
      if viewed then
        if seen + 1 = needed then beginRepetition number 0 0 s
        else setPurchaseState number (.grace needed (seen + 1) lapse) s
      else if lapse - 1 = 0 then endPurchase number .lapsed s
      else setPurchaseState number (.grace needed seen (lapse - 1)) s
    | .running position k remaining =>
      let step := stepAt p.steps position
      let left := if step.measure = .elapsed ∨ viewed = true then remaining - 1 else remaining
      if left = 0 then
        if k < step.repeats then beginRepetition number position (k + 1) s
        else if position + 1 < p.steps.length then beginRepetition number (position + 1) 0 s
        else endPurchase number .complete s
      else setPurchaseState number (.running position k left) s

/-- R140: the billing day that building time gives under a billing day start. -/
def billingDayOf (t : BuildingTime) (dayStart : Nat) : BitVec 16 :=
  if dayStart ≤ t.second then t.day else t.day - 1

/-- R140: the current billing day moves forward from `current` to `b`. -/
def movesForward (current b : BitVec 16) : Bool :=
  decide (1 ≤ (b - current).toNat) && decide ((b - current).toNat ≤ 32767)

/-- R140: the evaluation of the billing day, made only with building time SET and a guest. -/
def evalBillingDay (s : State) : State :=
  match guest s, s.time.building with
  | some r, some t =>
    let b := billingDayOf t r.billingDayStart
    match s.ret.billingDay with
    | none => { s with ret := { s.ret with billingDay := some b } }
    | some current =>
      if movesForward current b then
        { s with ret := { s.ret with billingDay := some b, spentToday := 0 } }
      else s
  | _, _ => s

/-- R131: the meter clears both viewed flags. -/
def clearViewed (s : State) : State :=
  { s with outA := { s.outA with viewed := false }, outB := { s.outB with viewed := false } }

/-- R133: the live purchases on a second event, oldest first; each was viewed or not as `s0` says. -/
def meterAll (s0 s : State) : State :=
  s0.ret.purchases.foldl (fun s p => meterPurchase p.number (isViewed s0 p.film) s) s

/-- R133, R136: the Purchase Meter on a second event. -/
def meterSecond (s : State) : State :=
  if running s then
    let s1 := evalBillingDay s
    clearViewed (if s1.emergency.isSome then s1 else meterAll s1 s1)
  else s

/-! ### The Lock Unit (R112 to R122) -/

/-- R120: the window membership that building time and the guest's record give. -/
def membershipNow (s : State) : Membership :=
  match guest s with
  | none => .none
  | some r =>
    match r.window with
    | none => .none
    | some w => if insideWindow s.time.building w then .inside else .outside

/-- R120: the membership evaluated afresh, with no purge of the Lock Unit's own. -/
def evalMembership (s : State) : State := { s with lock := { s.lock with membership := membershipNow s } }

/-- R120: an evaluation moves the membership from INSIDE to OUTSIDE or back. -/
def crossesEdge (before after : Membership) : Bool :=
  (before == .inside && after == .outside) || (before == .outside && after == .inside)

/-- R120: the Lock Unit evaluates the membership on a second event or a time step event. -/
def windowEvent (s : State) : State :=
  if running s then
    if crossesEdge s.lock.membership (membershipNow s) then purge (evalMembership s)
    else evalMembership s
  else s

/-- R113: the lock leaves UNLOCKED: SESSION ENDED latches and the admission purge is raised. -/
def leaveUnlocked (s : State) : State :=
  purge (latch .sessionEnded { s with lock := { s.lock with state := .locked } })

/-- R118, R121, R122: the lock is closed: an open session ends, a lockout is cancelled. -/
def closeLock (s : State) : State :=
  match s.lock.state with
  | .unlocked _ => leaveUnlocked s
  | .lockout _ => { s with lock := { s.lock with state := .locked } }
  | .locked => s

/-- The failures count at a value (R112). -/
def setFailures (n : Nat) (s : State) : State := { s with ret := { s.ret with failures := n } }

/-- R119: the Lock Unit compares monotonic seconds with the expiry of its lock state. -/
def expiryEvent (s : State) : State :=
  if running s then
    match s.lock.state with
    | .unlocked e => if e = s.time.mono then leaveUnlocked s else s
    | .lockout e =>
      if e = s.time.mono then { s with lock := { s.lock with state := .locked } } else s
    | .locked => s
  else s

/-- R47, R119, R120: the Lock Unit takes the second event whole, its two reactions in the order that
the event's choice gives (log 26). -/
def lockEvent (s : State) : State :=
  if s.model.windowFirst then expiryEvent (windowEvent s) else windowEvent (expiryEvent s)

/-! ### The commit of a table (R67, R83, R169) -/

/-- R169: an output on the Service Table committed event, before the purge. -/
def Output.rowLost (hasRow : Nat → Bool) (out : Output) : Output :=
  if out.selected ≠ 0 ∧ hasRow out.selected = false then
    { out with state := .waiting, entryWait := true, last := .noService }
  else out

/-- R83, R169: the consumers of the Service Table committed event. -/
def serviceCommitted (s : State) : State :=
  let flushed := flushKeys (slotOk s) s
  let hasRow (label : Nat) : Bool := (serviceRow s label).isSome
  purge { flushed with outA := flushed.outA.rowLost hasRow, outB := flushed.outB.rowLost hasRow }

/-- What the stage of a machine would make active: its generation and image. -/
def Stage.contents : Stage → Option (Nat × List Image)
  | .idle => none
  | .filling g rows => some (g, rows)
  | .checking g rows _ _ => some (g, rows)
  | .waiting g rows _ => some (g, rows)

/-- R67: the commit of a table: its stage becomes the active copy, the machine returns to IDLE, TABLE
COMMITTED latches and the committed event is raised. -/
def commit (t : Table) (s : State) : State :=
  match (machine s t).stage.contents with
  | none => s
  | some (g, rows) =>
    let m : TableMachine :=
      { machine s t with activeGen := g, active := rows, stage := .idle, commitDue := false }
    let made := latch .tableCommitted (withMachine t m s)
    match t with
    | .service => serviceCommitted made
    | .tariff => made

/-- R67: a commit that R64 or R66 has decided is made at once, or stands due (log 6). -/
def decideCommit (later : Bool) (t : Table) (s : State) : State :=
  if later then withMachine t { machine s t with commitDue := true } s else commit t s

/-- R67: a commit that stands due is made. -/
def commitIfDue (t : Table) (s : State) : State :=
  if (machine s t).commitDue then commit t s else s

/-- R67: the commits that stand due are made between units. -/
def commitsDue (s : State) : State := commitIfDue .tariff (commitIfDue .service s)

/-- R66: the stage of a table is PENDING, its commit not yet decided, and building time is at or past
its activation time. -/
def activates (s : State) (t : Table) : Bool :=
  match (machine s t).stage with
  | .waiting _ _ due => !(machine s t).commitDue && reached s.time.building due
  | .idle => false
  | .filling _ _ => false
  | .checking _ _ _ _ => false

/-- R66: one machine on a second event or a time step event. -/
def activateIfReached (t : Table) (s : State) : State := if activates s t then commit t s else s

/-- R66: the Table Loader on a second event or a time step event. -/
def loaderEvent (s : State) : State := activateIfReached .tariff (activateIfReached .service s)

/-! ### Tenancy (R101 to R106) -/

/-- R140: the current billing day at a tenancy completion. -/
def billingDayAtCompletion (s : State) : Option (BitVec 16) :=
  match guest s, s.time.building with
  | some r, some t => some (billingDayOf t r.billingDayStart)
  | _, _ => none

/-- R106, steps 1 and 2: the incoming record becomes the active record and the expiry is dropped. -/
def installIncoming (s : State) : State :=
  { s with
    ret := { s.ret with
      active := s.ret.incoming
      incoming := none
      tenancy := if s.ret.incoming.isSome then .occupied else .vacant }
    closing := none }

/-- R106: the completion of a change of tenancy, with the reactions of its consumers: spent-today and
the current billing day (R140), the lock LOCKED with failures 0 (R122, log 28), the membership
(R120), the purge. -/
def completeTenancy (s : State) : State :=
  let s1 := latch .tenancyChanged (installIncoming s)
  let s2 : State :=
    { s1 with
      ret := { s1.ret with spentToday := 0, billingDay := billingDayAtCompletion s1, failures := 0 }
      lock := { state := .locked, membership := membershipNow s1 } }
  purge s2

/-- R104: no record in the Billing Queue has its offered mark clear. -/
def allOffered (s : State) : Bool := s.ret.records.all (·.offered)

/-- R104: the Tenancy Unit tests the completion condition, in CLOSING and outside STARTING (R94,
log 16). -/
def testCompletion (s : State) : State :=
  if running s && s.ret.tenancy == .closing && allOffered s then completeTenancy s else s

/-- R105: the completion expiry of CLOSING is reached, outside STARTING. -/
def timeoutReached (s : State) : Bool :=
  running s && s.ret.tenancy == .closing && s.closing == some s.time.mono

/-- R105: the Tenancy Unit on a second event. -/
def tenancySecond (s : State) : State := if timeoutReached s then completeTenancy s else s

/-! ### The delivery of events to their consumers (R47; logs 4 and 5) -/

/-- The consumers `cs` in the order a choice names them, those it does not name last. -/
def inOrder : List Consumer → List Consumer → List Consumer
  | [], cs => cs
  | c :: order, cs => if cs.contains c then c :: inOrder order (cs.erase c) else inOrder order cs

/-- The choice read where none is left: the given order, everything at once. -/
def Choice.none : Choice := { order := [], later := [], windowFirst := false }

/-- The next free choice. -/
def nextChoice (s : State) : Choice := s.model.choices.headD Choice.none

/-- The free choice that was read is used up. -/
def usedChoice (s : State) : State := { s with model := { s.model with choices := s.model.choices.tail } }

/-- The consumers of the second event (R47), each as its rule says. -/
def takeSecond (c : Consumer) (s : State) : State :=
  match c with
  | .lock => lockEvent s
  | .meter => meterSecond s
  | .loader => loaderEvent s
  | .tenancy => tenancySecond s
  | .keys => s
  | .gate => s

/-- A consumer takes the second event in a step of its own. -/
def owe (c : Consumer) (s : State) : State := { s with model := { s.model with due := s.model.due ++ [c] } }

/-- A consumer owes the second event no longer. -/
def paid (c : Consumer) (s : State) : State := { s with model := { s.model with due := s.model.due.erase c } }

/-- The second event reaches a consumer: it takes it now, or in a step of its own. -/
def deliverSecond (later : List Consumer) (c : Consumer) (s : State) : State :=
  if later.contains c then owe c s else takeSecond c s

/-- The consumers that owe the last second event take it. -/
def settle (s : State) : State :=
  s.model.due.foldl (fun s c => takeSecond c s) { s with model := { s.model with due := [] } }

/-- The consumers of the second event in the order of the table of chapter 3.4. -/
def secondConsumers : List Consumer := [.lock, .meter, .loader, .tenancy]

/-- R41, R43, R47: the second event. What the last one still owes is taken first (log 5). The choice
says in which order the Lock Unit does its two reactions to this event (log 26). -/
def secondEvent (s : State) : State :=
  let s0 := settle s
  let choice := nextChoice s0
  let s1 : State :=
    { s0 with
      time := s0.time.second
      model := { s0.model with choices := s0.model.choices.tail, windowFirst := choice.windowFirst } }
  (inOrder choice.order secondConsumers).foldl (fun s c => deliverSecond choice.later c s) s1

/-- R47: the consumers of the time step event, each as its rule says. -/
def takeStep (c : Consumer) (s : State) : State :=
  match c with
  | .lock => windowEvent s
  | .meter => evalBillingDay s
  | .loader => loaderEvent s
  | .tenancy => s
  | .keys => s
  | .gate => s

/-- R45: building time is adopted. Where it changes, the second event that is still owed is taken at
the old building time, and a time step event is raised. -/
def adoptTime (t : BuildingTime) (s : State) : State :=
  if s.time.building = some t then s
  else
    let s0 := settle s
    let choice := nextChoice s0
    let s1 : State := { usedChoice s0 with time := { s0.time with building := some t } }
    (inOrder choice.order [.lock, .meter, .loader]).foldl (fun s c => takeStep c s) s1

/-- R103: the consumers of the CLOSING start event, each as its rule says. -/
def takeClosing (c : Consumer) (s : State) : State :=
  match c with
  | .meter => endAll .tenancy s
  | .keys => flushAtClosing s
  | .lock => evalMembership (setFailures 0 (closeLock s))
  | .gate => purge s
  | .loader => s
  | .tenancy => s

/-- R121: the PIN, the lock mode or the lock threshold differs between two records. -/
def lockFieldsDiffer (old new : RoomRecord) : Bool :=
  old.pin != new.pin || old.lockMode != new.lockMode || old.threshold != new.threshold

/-- R100: the consumers of the active record changed event, each as its rule says. -/
def takeRecordChanged (differs : Bool) (c : Consumer) (s : State) : State :=
  match c with
  | .keys => flushKeys (keptByRecord s) s
  | .lock => evalMembership (if differs then setFailures 0 (closeLock s) else s)
  | .gate => purge s
  | .meter => s
  | .loader => s
  | .tenancy => s

/-! ### Rows of the Classifier (R13, R14, R22, R25) -/

/-- The rows that take a unit from the Building Feed FIFO. -/
inductive FeedRow where
  | media
  | discarded
  | timeMark
  | keyUnit
  | ignored
  | tableOpen
  | tableRows
  | tableClose
  | roomRecord
  | tenancyChange
  | lockReset
  | purchaseVoid
  | billingReceipt
  | billingPoll
  | emergencyOn
  | emergencyOff
  deriving DecidableEq, Repr

/-- The row of a directive of a known kind; an EMERGENCY is OFF where its mode says so (log 18). -/
def directiveRow (kind : DirectiveKind) (payload : List Byte) : FeedRow :=
  match kind with
  | .tableOpen => .tableOpen
  | .tableRows => .tableRows
  | .tableClose => .tableClose
  | .roomRecord => .roomRecord
  | .tenancyChange => .tenancyChange
  | .lockReset => .lockReset
  | .purchaseVoid => .purchaseVoid
  | .billingReceipt => .billingReceipt
  | .billingPoll => .billingPoll
  | .emergency => if byteAt (directiveBody payload) 0 = 2 then .emergencyOff else .emergencyOn

/-- R2, R13, R22: the row that takes a unit from the Building Feed FIFO. -/
def feedRow (install : Installation) (u : CarriageUnit) : FeedRow :=
  let label := u.label.toNat
  if feedHeaderFault u then .discarded
  else if isServiceLabel label then .media
  else if label = 4080 then .timeMark
  else if label = 4088 then .keyUnit
  else if label = 4095 then
    match directiveKindOf (byteAt u.payload 0) with
    | none => .ignored
    | some kind =>
      if addressedTo install.room install.groups u.payload then directiveRow kind u.payload
      else .ignored
  else .discarded

/-- The rows that take a unit from the Local Insert FIFO. -/
inductive LocalRow where
  | refused
  | unknown
  | command (kind : CommandKind)
  deriving DecidableEq, Repr

/-- R14, R25: the row that takes a unit from the Local Insert FIFO. -/
def localRow (u : CarriageUnit) : LocalRow :=
  if localHeaderFault u || u.label.toNat != 4094 then .refused
  else
    match commandKindOf (byteAt u.payload 0) with
    | none => .unknown
    | some kind => .command kind

/-- The Classifier takes a unit of a row other than MEDIA_UNIT from the building feed, after the
commits that stand due (R67), and its owner acts on it; where the next unit is none of the row's,
nothing happens (log 1). -/
def onFeed (row : FeedRow) (act : CarriageUnit → State → State) (s : State) : State :=
  match feedHead s with
  | some u =>
    if feedRow s.install u.unit = row then act u.unit (tookFeed (commitsDue s)) else s
  | none => s

/-- R23, R24: the Classifier takes a directive of a row addressed to this part. With a form fault it
is ignored whole and DIRECTIVE FAULT latches; otherwise its owner acts on its operands. -/
def onDirective {α : Type} (row : FeedRow) (read : List Byte → Option α) (act : α → State → State)
    (s : State) : State :=
  onFeed row
    (fun u s =>
      match read u.payload with
      | some operands => act operands s
      | none => latch .directiveFault s)
    s

/-- The Classifier takes a unit of a row from the Local Insert FIFO, after the commits that stand due
(R67), and the Command Parser acts on it; where the next unit is none of the row's, nothing happens
(log 1). -/
def onLocal (row : LocalRow) (act : CarriageUnit → State → State) (s : State) : State :=
  match localHead s with
  | some u => if localRow u.unit = row then act u.unit (tookLocal (commitsDue s)) else s
  | none => s

/-- The owner's answer to a command: the part after it, the result code, the body. -/
abbrev Reply := State × ResultCode × List Byte

/-- R25, R26: the Classifier takes a local command of a kind. A frame fault is answered BAD FORM;
otherwise the owner acts on its operands, and the result joins the Result Queue. -/
def onCommand {α : Type} (kind : CommandKind) (read : List Byte → Option α) (act : α → State → Reply)
    (s : State) : State :=
  onLocal (.command kind)
    (fun u s =>
      match read u.payload with
      | some operands =>
        let reply := act operands s
        pushResult (answer u.payload reply.2.1 reply.2.2) reply.1
      | none => pushResult (answer u.payload .badForm []) s)
    s

end Sys2Proof.Machine
end

