-- ==== Sys2Proof/Machine/Billing.lean ====
section
/-!
DEFINITION. The billing directives (chapter 9): R154, R155.
-/
namespace Sys2Proof.Machine

/-- R154: the offer position after the records up to a serial are removed. -/
def offerAfterReceipt (kept : List BillingRecord) (offer : Option Nat) : Option Nat :=
  match offer with
  | none => none
  | some serial => if hasSerial kept serial then some serial else oldestSerial kept

/-- R154, R156: the record of a serial and every older one are removed. -/
def removeThrough (serial : Nat) (s : State) : State :=
  let kept := newerThan serial s.ret.records
  { s with
    ret := { s.ret with records := kept }
    offer := offerAfterReceipt kept s.offer
    alerts := s.alerts.latchIf
      (billingHighLatches s s.ret.records.length kept.length) .billingHigh }

/-- R154: BILLING RECEIPT; a serial that is not in the queue is ignored. -/
def receive (serial : Nat) (s : State) : State :=
  if hasSerial s.ret.records serial then testCompletion (removeThrough serial s) else s

/-- BILLING_RECEIPT (R154). -/
def execBillingReceipt (s : State) : Host.Outcome State Fault Refusal :=
  .next (onDirective .billingReceipt readNumber receive s)

/-- R155: BILLING POLL: the position names the record of the serial, or else the oldest. -/
def poll (serial : Nat) (s : State) : State :=
  { s with
    offer := if hasSerial s.ret.records serial then some serial else oldestSerial s.ret.records }

/-- BILLING_POLL (R155). -/
def execBillingPoll (s : State) : Host.Outcome State Fault Refusal :=
  .next (onDirective .billingPoll readNumber poll s)

end Sys2Proof.Machine
end

