-- ==== Sys2Proof/Machine/Inputs.lean ====
section
/-!
DEFINITION. The commands of the two input ports (chapter 1): R3 to R6, R10.
-/
namespace Sys2Proof.Machine

/-- R3: the feed interface at a unit-start indication with this byte. -/
def feedInterfaceAt (first : Byte) : FeedInterface := if first = 0xB5 then .receiving else .awaiting

/-- R3: what follows a unit-start indication is a complete unit. -/
def isCompleteUnit (bytes : List Byte) : Bool :=
  bytes.head? == some 0xB5 && decide (128 ≤ bytes.length)

/-- R3: the feed interface after bytes that are no complete unit. -/
def feedInterfaceAfter (bytes : List Byte) (now : FeedInterface) : FeedInterface :=
  match bytes with
  | [] => now
  | first :: _ => feedInterfaceAt first

/-- R6: a complete unit is offered to the Building Feed FIFO: stamped, it enters at the tail, or it is
dropped at a full FIFO and FEED OVERFLOW latches. -/
def offerFeed (u : CarriageUnit) (s : State) : State :=
  if s.merge.feed.length < 64 then
    evalShed { s with
      merge := { s.merge with feed := s.merge.feed ++ [{ unit := u, stamp := s.merge.stamp }] } }
  else latch .feedOverflow s

/-- FEED_UNIT_ARRIVAL (R3, R6): the bytes after a unit-start indication; those after the 128th are
ignored. -/
def execFeedUnitArrival (bytes : List Byte) (s : State) : Host.Outcome State Fault Refusal :=
  .next
    (if live s then
      if isCompleteUnit bytes then
        offerFeed (unitOfBytes bytes) { s with merge := { s.merge with feedIf := .awaiting } }
      else
        { s with merge := { s.merge with feedIf := feedInterfaceAfter bytes s.merge.feedIf } }
     else s)

/-- R3: the byte of the unit-start indication that stands at the interface after a discard. -/
def startByteOf : Sys2Proof.FeedDiscard → Byte
  | .badSync first => first
  | .cutShort next => next

/-- FEED_INTERFACE_DISCARD (R3): the unit never enters the FIFO and latches nothing; the interface
awaits a unit-start indication with 0xB5, which the one that cut a unit short may already be. -/
def execFeedInterfaceDiscard (why : Sys2Proof.FeedDiscard) (s : State) : Host.Outcome State Fault Refusal :=
  .next
    (if live s then
      { s with merge := { s.merge with feedIf := feedInterfaceAt (startByteOf why) } }
     else s)

/-- R4: the local insert ready line. -/
def insertReady (s : State) : Bool := running s && decide (s.merge.localQ.length < 8)

/-- R4, R10: a byte taken at the local insert port. -/
def takeInsertByte (byte : Byte) (m : InputMerge) : InputMerge :=
  if m.asm = [] then
    if byte = 0xB5 then { m with asm := [byte] } else m
  else if m.asm.length + 1 < 128 then { m with asm := m.asm ++ [byte] }
  else
    { m with
      asm := []
      localQ := m.localQ ++ [{ unit := unitOfBytes (m.asm ++ [byte]), stamp := m.stamp }] }

/-- LOCAL_INSERT_BYTE (R4): with the ready line deasserted the byte stays with the room controller. -/
def execLocalInsertByte (byte : Byte) (s : State) : Host.Outcome State Fault Refusal :=
  .next (if insertReady s then { s with merge := takeInsertByte byte s.merge } else s)

end Sys2Proof.Machine
end

