-- ==== Sys2Proof/Machine/Commands.lean ====
section
/-!
DEFINITION. What the parsers do themselves (chapter 2): ignored directives (R22), refused units (R14),
unknown commands (R25), QUERY (R29 to R31, R177), ALERT SETUP (R38) and ALERT CLEAR (R39).
-/
namespace Sys2Proof.Machine

/-- DIRECTIVE_IGNORED (R22): the directive is taken and leaves no trace. -/
def execDirectiveIgnored (s : State) : Host.Outcome State Fault Refusal :=
  .next (onFeed .ignored (fun _ s => s) s)

/-- R14: the result of a refused unit: BAD FORM, tag 0, kind 0, empty body. -/
def refusal : Result where
  tag := 0
  kind := 0
  code := .badForm
  body := []

/-- REFUSED_UNIT (R14). -/
def execRefusedUnit (s : State) : Host.Outcome State Fault Refusal :=
  .next (onLocal .refused (fun _ s => pushResult refusal s) s)

/-- UNKNOWN_COMMAND (R25): BAD FORM with the tag and the kind code as they stood. -/
def execUnknownCommand (s : State) : Host.Outcome State Fault Refusal :=
  .next (onLocal .unknown (fun u s => pushResult (answer u.payload .badForm []) s) s)

/-! ### The views of QUERY (R30, R31, R177) -/

/-- R177: one output of the OUTPUTS view. -/
def outputView (out : Output) : List Byte :=
  beBytes 2 out.selected ++ beBytes 2 out.saved ++ beBytes 1 out.state.code
    ++ beBytes 1 (bit out.entryWait + 2 * bit out.viewed)
    ++ [out.last.code] ++ beBytes 1 out.queue.length

/-- R177: the OUTPUTS view. -/
def outputsView (s : State) : List Byte :=
  outputView s.outA ++ outputView s.outB ++ beBytes 1 (bit s.emergency.isSome)
    ++ beBytes 2 (s.emergency.getD 0)

/-- R177: the counts of a purchase in the PURCHASES view. -/
def countsView : PurchaseState → List Byte
  | .grace needed seen lapse => beBytes 1 1 ++ (beBytes 2 seen ++ beBytes 2 needed ++ beBytes 2 lapse)
  | .running position k remaining =>
    beBytes 1 2 ++ (beBytes 1 position ++ beBytes 1 k ++ beBytes 4 remaining)

/-- R177: one purchase of the PURCHASES view: number, state, film id, counts, total charged. -/
def purchaseView (p : Purchase) : List Byte :=
  beBytes 1 p.number ++ (countsView p.state).take 1 ++ beBytes 2 p.film
    ++ (countsView p.state).drop 1 ++ beBytes 4 p.total

/-- R147: a purchase put in its place by purchase number. -/
def insertByNumber (p : Purchase) : List Purchase → List Purchase
  | [] => [p]
  | q :: rest => if p.number ≤ q.number then p :: q :: rest else q :: insertByNumber p rest

/-- R147: the live purchases in the order of their numbers. -/
def byNumber : List Purchase → List Purchase
  | [] => []
  | p :: rest => insertByNumber p (byNumber rest)

/-- R177: the PURCHASES view. The spend limit is that of the record in the active slot (log 19). -/
def purchasesView (s : State) : List Byte :=
  beBytes 1 (s.ret.purchases.length + 128 * bit s.ret.active.isSome)
    ++ beBytes 1 s.ret.nextPurchase ++ beBytes 3 s.ret.spentToday
    ++ beBytes 3 ((s.ret.active.map (·.spendLimit)).getD 0)
    ++ (byNumber s.ret.purchases).flatMap purchaseView

/-- R123: the seconds remaining to the expiry that the lock holds. They are 0 in UNLOCKED or LOCKOUT while
the Lock Unit still owes the second event that reached the expiry (the model's choice, log 5). -/
def secondsRemaining (s : State) : Nat :=
  match s.lock.state with
  | .locked => 0
  | .unlocked e => (e - s.time.mono).toNat
  | .lockout e => (e - s.time.mono).toNat

/-- R177: the fields of the LOCK view that the active record gives, 0 when the slot is empty. -/
def recordView (r : Option RoomRecord) : List Byte :=
  let window := r.bind (·.window)
  beBytes 1 ((r.map (·.lockMode.code)).getD 0) ++ beBytes 1 ((r.map (·.threshold)).getD 0)
    ++ beBytes 1 (bit (r.bind (·.pin)).isSome) ++ beBytes 1 (bit window.isSome)
    ++ beBytes 4 ((window.map (·.opens)).getD 0) ++ beBytes 4 ((window.map (·.closes)).getD 0)

/-- R177: the LOCK view. -/
def lockView (s : State) : List Byte :=
  beBytes 2 s.install.room ++ beBytes 1 s.ret.tenancy.code
    ++ beBytes 2 ((s.ret.active.map (·.tenancyId)).getD 0)
    ++ beBytes 1 (bit s.ret.active.isSome + 2 * bit s.ret.waiting.isSome + 4 * bit s.ret.incoming.isSome)
    ++ recordView s.ret.active
    ++ beBytes 1 s.lock.state.code ++ beBytes 1 s.ret.failures ++ beBytes 4 (secondsRemaining s)

/-- R177: the CLOCK view. -/
def clockView (s : State) : List Byte :=
  beBytes 4 s.time.mono.toNat ++ beBytes 1 (if s.time.building.isSome then 2 else 1)
    ++ beBytes 2 ((s.time.building.map (fun t => t.day.toNat)).getD 0)
    ++ beBytes 4 ((s.time.building.map (·.second)).getD 0)
    ++ beBytes 1 (bit s.ret.billingDay.isSome)
    ++ beBytes 2 ((s.ret.billingDay.map (·.toNat)).getD 0)

/-- R31: the generation a stage reports. -/
def reportedGeneration (stage : Stage) : Nat := (stage.contents.map (·.1)).getD 0

/-- R31: the activation time a stage reports, that of PENDING. -/
def reportedActivation : Stage → Option BuildingTime
  | .waiting _ _ due => some due
  | .idle => none
  | .filling _ _ => none
  | .checking _ _ _ _ => none

/-- R177: one table of the TABLES view. -/
def tableView (m : TableMachine) : List Byte :=
  let due := reportedActivation m.stage
  beBytes 2 m.activeGen ++ beBytes 1 m.stage.code ++ beBytes 2 (reportedGeneration m.stage)
    ++ beBytes 1 (bit due.isSome) ++ beBytes 2 ((due.map (fun t => t.day.toNat)).getD 0)
    ++ beBytes 4 ((due.map (·.second)).getD 0)
    ++ beBytes 1 (bit m.lastSig.isSome) ++ beBytes 4 ((m.lastSig.map (·.toNat)).getD 0)

/-- R177: the TABLES view. -/
def tablesView (s : State) : List Byte := tableView s.svc ++ tableView s.tar

/-- R177: one slot of the KEYS view. -/
def slotView : Option KeySlot → List Byte
  | none => zeros 5
  | some k =>
    beBytes 1 (1 + 2 * bit k.house + 4 * bit k.wordA.isSome + 8 * bit k.wordB.isSome + 16 * bit k.used)
      ++ beBytes 2 k.label ++ beBytes 2 (k.order.toNat % 65536)

/-- R177: the KEYS view. -/
def keysView (s : State) : List Byte := s.keys.slots.flatMap slotView

/-- R177: the BILLING view. -/
def billingView (s : State) : List Byte :=
  beBytes 1 s.ret.records.length
    ++ beBytes 1 (bit (!s.ret.records.isEmpty) + 2 * bit s.offer.isSome)
    ++ beBytes 2 ((oldestSerial s.ret.records).getD 0)
    ++ beBytes 2 ((s.ret.records.getLast?.map (·.serial)).getD 0)
    ++ beBytes 2 (s.offer.getD 0) ++ beBytes 2 s.ret.nextSerial
    ++ beBytes 1 s.install.billingHigh ++ beBytes 1 s.alerts.sense.code

/-- R18, R177: the FIFOS view. -/
def fifosView (s : State) : List Byte :=
  beBytes 1 s.merge.feed.length ++ beBytes 1 s.merge.localQ.length ++ beBytes 1 s.merge.shed.code
    ++ beBytes 1 s.install.shedThr ++ beBytes 1 s.install.resumeThr ++ beBytes 1 s.results.length

/-- R177: the ALERTS view. -/
def alertsView (s : State) : List Byte :=
  beBytes 4 s.alerts.latched.toNat ++ beBytes 4 (conditionSet s).toNat
    ++ AlertSource.all.flatMap (fun src => beBytes 1 (s.alerts.level src))
    ++ beBytes 1 s.alerts.sense.code ++ beBytes 1 s.alerts.mask ++ beBytes 1 (bit (alertLine s))

/-- R29, R177: the body of a view. -/
def viewBody (s : State) : View → List Byte
  | .outputs => outputsView s
  | .purchases => purchasesView s
  | .lock => lockView s
  | .clock => clockView s
  | .tables => tablesView s
  | .keys => keysView s
  | .billing => billingView s
  | .fifos => fifosView s
  | .alerts => alertsView s

/-- QUERY (R29). -/
def execQuery (s : State) : Host.Outcome State Fault Refusal :=
  .next (onCommand .query readQuery (fun view s => (s, .done, viewBody s view)) s)

/-! ### The Alert Unit's commands -/

/-- R38: the mask level, the fifteen levels and the sense take the values given. -/
def setUpAlerts (x : SetupOperands) (s : State) : State :=
  { s with alerts := { s.alerts with mask := x.mask, levels := x.levels, sense := x.sense } }

/-- ALERT_SETUP (R38). -/
def execAlertSetup (s : State) : Host.Outcome State Fault Refusal :=
  .next (onCommand .alertSetup readAlertSetup (fun x s => (setUpAlerts x s, .done, [])) s)

/-- R39: the named sources are cleared, and those whose conditions hold latch again. -/
def clearAlerts (named : BitVec 16) (s : State) : State :=
  { s with alerts := { s.alerts with latched := clearedFlags s named } }

/-- ALERT_CLEAR (R39): the body is the set latched after the clear. -/
def execAlertClear (s : State) : Host.Outcome State Fault Refusal :=
  .next
    (onCommand .alertClear readAlertClear
      (fun named s => (clearAlerts named s, .done, beBytes 4 (clearedFlags s named).toNat)) s)

end Sys2Proof.Machine
end

