-- ==== Sys2Proof/Machine/Gate.lean ====
section
/-!
DEFINITION. Selection and the emergency override (chapter 10): R161, R171, R172.
-/
namespace Sys2Proof.Machine

/-- R161, R171, R172: an output is given a selection: its queue is discarded and it waits, or it is
IDLE with label 0. -/
def Output.given (label : Nat) (last : Verdict) (out : Output) : Output :=
  { out with
    selected := label
    state := if label = 0 then .idle else .waiting
    entryWait := true
    last := last
    queue := [] }

/-- R172: the last verdict of an output that takes a saved label back: NO SERVICE if the label has no row,
label 0 among them (R52). -/
def verdictOfRestored (s : State) (label : Nat) : Verdict :=
  if (serviceRow s label).isNone then .noService else .none

/-- R161: the last verdict of an output given a label by SELECT: NONE with label 0, NO SERVICE for another
label with no row. -/
def verdictOfGiven (s : State) (label : Nat) : Verdict :=
  if label = 0 then .none else verdictOfRestored s label

/-- R161: SELECT takes effect on an output. -/
def selectOn (o : OutputId) (label : Nat) (s : State) : State :=
  dropReferences [label]
    (withOutput o ((output s o).given label (verdictOfGiven s label)) s)

/-- R161: SELECT. -/
def selectLabel (x : OutputId × Nat) (s : State) : Reply :=
  if s.emergency.isSome then (s, .override, [])
  else if 4079 < x.2 then (s, .badForm, [])
  else (selectOn x.1 x.2 s, .done, [])

/-- SELECT (R161). -/
def execSelect (s : State) : Host.Outcome State Fault Refusal :=
  .next (onCommand .select readSelect selectLabel s)

/-- R171: an output under the override of a label; `save` where the override begins. -/
def Output.overridden (label : Nat) (save : Bool) (out : Output) : Output :=
  { out.given label .none with saved := if save then out.selected else out.saved }

/-- R171: the override shows a label on both outputs. -/
def showEmergency (label : Nat) (s : State) : State :=
  let begins := s.emergency.isNone
  dropReferences [label]
    { s with
      outA := s.outA.overridden label begins
      outB := s.outB.overridden label begins
      emergency := some label
      alerts := s.alerts.latchIf begins .emergency }

/-- R171: the label's row is OPEN. -/
def hasOpenRow (s : State) (label : Nat) : Bool :=
  match serviceRow s label with
  | some r => r.access == .openToAll
  | none => false

/-- R171: EMERGENCY ON. -/
def beginEmergency (label : Nat) (s : State) : State :=
  if !hasOpenRow s label then latch .directiveFault s
  else if s.emergency = some label then s
  else showEmergency label s

/-- EMERGENCY_ON (R171). -/
def execEmergencyOn (s : State) : Host.Outcome State Fault Refusal :=
  .next (onDirective .emergencyOn readEmergencyOn beginEmergency s)

/-- R172: an output takes its saved selection back. -/
def Output.restored (last : Verdict) (out : Output) : Output :=
  { out.given out.saved last with saved := 0 }

/-- R172: the override ends. -/
def endEmergency (s : State) : State :=
  if s.emergency.isNone then s
  else
    dropReferences [s.outA.saved, s.outB.saved]
      { s with
        outA := s.outA.restored (verdictOfRestored s s.outA.saved)
        outB := s.outB.restored (verdictOfRestored s s.outB.saved)
        emergency := none }

/-- EMERGENCY_OFF (R172). -/
def execEmergencyOff (s : State) : Host.Outcome State Fault Refusal :=
  .next (onDirective .emergencyOff readEmergencyOff (fun _ s => endEmergency s) s)

end Sys2Proof.Machine
end

