-- ==== Sys2Proof/Machine/Keys.lean ====
section
/-!
DEFINITION. The Key Table takes a key unit (chapter 5): R71 to R77.
-/
namespace Sys2Proof.Machine

/-- R75: the acceptance test of a well-formed key entry. -/
def accepts (s : State) (e : KeyEntry) : Bool :=
  match serviceRow s e.label with
  | none => false
  | some r =>
    match r.access with
    | .openToAll => e.house
    | .package => !e.house && e.package == r.package && holdsPackage s r.package
    | .film => !e.house && isBought s r.film
    | .noMeaning => false

/-- R76: the slot that an entry loads anew, with its load order. -/
def loadedBy (e : KeyEntry) (order : Word32) : KeySlot where
  label := e.label
  house := e.house
  wordA := if e.phaseB then none else some e.word
  wordB := if e.phaseB then some e.word else none
  used := false
  order := order

/-- R76, step 1: the slot of the entry's label takes the entry's word. -/
def reloadedBy (e : KeyEntry) (order : Word32) (k : KeySlot) : KeySlot :=
  { k with
    wordA := if e.phaseB then k.wordA else some e.word
    wordB := if e.phaseB then some e.word else k.wordB
    used := false
    order := order }

/-- R74: the age of a slot. -/
def ageOf (loads : Word32) (k : KeySlot) : Nat := (loads - k.order).toNat

/-- R77: the slot may be replaced: its house flag is clear and its label is selected on no output. -/
def isCandidate (s : State) (k : KeySlot) : Bool := !k.house && !isSelected s k.label

/-- R74, R77: the index of the oldest of the slots that satisfy a test, counted from `i`; of equal
ages the lower index is the older. -/
def oldestSlot (loads : Word32) (test : KeySlot → Bool) : Nat → List (Option KeySlot) → Option (Nat × Nat)
  | _, [] => none
  | i, slot :: rest =>
    let later := oldestSlot loads test (i + 1) rest
    match slot with
    | none => later
    | some k =>
      if test k then
        match later with
        | some (j, age) => if ageOf loads k < age then some (j, age) else some (i, ageOf loads k)
        | none => some (i, ageOf loads k)
      else later

/-- R77: the slot chosen for replacement: the oldest unused candidate, else the oldest candidate. -/
def chosenSlot (s : State) : Option Nat :=
  match oldestSlot s.keys.loads (fun k => isCandidate s k && !k.used) 0 s.keys.slots with
  | some (i, _) => some i
  | none => (oldestSlot s.keys.loads (isCandidate s) 0 s.keys.slots).map (·.1)

/-- The part with a slot loaded, which advances the load counter (R74). -/
def loadSlot (i : Nat) (k : KeySlot) (s : State) : State :=
  { s with keys := { s.keys with slots := s.keys.slots.set i (some k), loads := s.keys.loads + 1 } }

/-- R76: a slot carries the label. -/
def carries (label : Nat) (slot : Option KeySlot) : Bool :=
  match slot with
  | some k => k.label == label
  | none => false

/-- R76, R77: the placement of an accepted entry. -/
def placeEntry (e : KeyEntry) (s : State) : State :=
  let order := s.keys.loads + 1
  match s.keys.slots.findIdx? (carries e.label) with
  | some i =>
    match s.keys.slots.getD i none with
    | some k => loadSlot i (reloadedBy e order k) s
    | none => s
  | none =>
    match s.keys.slots.findIdx? Option.isNone with
    | some i => loadSlot i (loadedBy e order) s
    | none =>
      match chosenSlot s with
      | some i => loadSlot i (loadedBy e order) s
      | none => latch .keyTableFull s

/-- R75: a well-formed entry is accepted and placed, or discarded. -/
def takeEntry (s : State) (e : KeyEntry) : State := if accepts s e then placeEntry e s else s

/-- KEY_UNIT (R71): the well-formed entries are taken one at a time, in their order. -/
def execKeyUnit (s : State) : Host.Outcome State Fault Refusal :=
  .next (onFeed .keyUnit (fun u s => (readKeyUnit u.payload).foldl takeEntry s) s)

end Sys2Proof.Machine
end

