-- ==== Sys2Proof/Machine/Lock.lean ====
section
/-!
DEFINITION. The Lock Unit's commands (chapter 7): PIN ENTRY, RELOCK, LOCK RESET and the expiries (R114
to R119).
-/
namespace Sys2Proof.Machine

/-- R115, R116: a session of this length opens, or is renewed. -/
def openSession (length : Nat) (s : State) : State :=
  { s with lock := { s.lock with state := .unlocked (s.time.mono + BitVec.ofNat 32 length) } }

/-- R115: the third consecutive wrong PIN: LOCKOUT for 900 seconds, and the source latches. -/
def enterLockout (s : State) : State :=
  latch .lockout { s with lock := { s.lock with state := .lockout (s.time.mono + 900) } }

/-- R115, R116: a wrong PIN that reaches the comparison. -/
def wrongPin (s : State) : State :=
  match s.lock.state with
  | .unlocked _ => setFailures (s.ret.failures + 1) (leaveUnlocked s)
  | .locked =>
    if s.ret.failures < 2 then setFailures (s.ret.failures + 1) s
    else setFailures 0 (enterLockout s)
  | .lockout _ => s

/-- R114: the ordered checks of PIN ENTRY, then the comparison of R115 and R116. -/
def enterPin (digits : Pin) (s : State) : Reply :=
  match s.ret.tenancy with
  | .closing => (s, .closing, [])
  | .vacant => (s, .vacant, [])
  | .occupied =>
    match guest s with
    | none => (s, .noPin, [])
    | some r =>
      if r.lockMode = .barred then (s, .barred, [])
      else
        match r.pin with
        | none => (s, .noPin, [])
        | some pin =>
          if r.lockMode = .off then (s, .done, [])
          else if s.lock.state.isLockout then (s, .lockedOut, [])
          else if digits = pin then (setFailures 0 (openSession r.session s), .done, [])
          else (wrongPin s, .wrongPin, [])

/-- PIN_ENTRY (R114). -/
def execPinEntry (s : State) : Host.Outcome State Fault Refusal :=
  .next (onCommand .pinEntry readPinEntry enterPin s)

/-- R117: RELOCK closes an open lock and leaves any other state of it. -/
def relockNow (s : State) : State :=
  match s.lock.state with
  | .unlocked _ => leaveUnlocked s
  | .locked => s
  | .lockout _ => s

/-- RELOCK (R117). -/
def execRelock (s : State) : Host.Outcome State Fault Refusal :=
  .next (onCommand .relock readRelock (fun _ s => (relockNow s, .done, [])) s)

/-- LOCK_RESET (R118). -/
def execLockReset (s : State) : Host.Outcome State Fault Refusal :=
  .next (onDirective .lockReset readNoBody (fun _ s => setFailures 0 (closeLock s)) s)

/-- R119: the session expiry is reached. -/
def sessionExpires (s : State) : Bool :=
  running s && s.lock.state == .unlocked s.time.mono

/-- R119: the lockout expiry is reached. -/
def lockoutExpires (s : State) : Bool :=
  running s && s.lock.state == .lockout s.time.mono

/-- SESSION_EXPIRY (R119): the Lock Unit takes the second event that reached the session expiry in a
step of its own, and takes it whole: its membership is evaluated in the same step (R47, R120; logs 5
and 26). -/
def execSessionExpiry (s : State) : Host.Outcome State Fault Refusal :=
  .next (if sessionExpires s then lockEvent (paid .lock s) else s)

/-- LOCKOUT_EXPIRY (R119): the Lock Unit takes the second event that reached the lockout expiry in a
step of its own, and takes it whole: its membership is evaluated in the same step (R47, R120; logs 5
and 26). -/
def execLockoutExpiry (s : State) : Host.Outcome State Fault Refusal :=
  .next (if lockoutExpires s then lockEvent (paid .lock s) else s)

end Sys2Proof.Machine
end

