-- ==== Sys2Proof/Machine/Media.lean ====
section
/-!
DEFINITION. The media path: the Classifier's steps for a media unit (R15 to R17), the Descrambler (R84,
R85) and the gating of a unit (R163 to R165); and the units that are discarded (R13).
-/
namespace Sys2Proof.Machine

/-! ### The sequence check (R17) -/

/-- The four cases of the sequence check. -/
inductive SequenceCase where
  | noReference
  | duplicate
  | inOrder
  | gap
  deriving DecidableEq, Repr

/-- R16: the reference of a label. -/
def referenceOf (refs : List SequenceRef) (label : Nat) : Option (BitVec 4) :=
  (refs.find? (fun r => r.label == label)).map (·.sequence)

/-- R17: the case of a unit. -/
def sequenceCase (refs : List SequenceRef) (u : CarriageUnit) : SequenceCase :=
  match referenceOf refs u.label.toNat with
  | none => .noReference
  | some q =>
    if u.sequence = q then .duplicate else if u.sequence = q + 1 then .inOrder else .gap

/-- R17: the reference of the unit's label takes the unit's sequence. -/
def withReference (u : CarriageUnit) (refs : List SequenceRef) : List SequenceRef :=
  { label := u.label.toNat, sequence := u.sequence }
    :: refs.filter (fun r => r.label != u.label.toNat)

/-- R17: an output after the check of a unit: a gap sets the entry-wait flag of an output that selects
the label. -/
def Output.afterCheck (u : CarriageUnit) (gap : Bool) (out : Output) : Output :=
  { out with entryWait := out.entryWait || (gap && out.selected == u.label.toNat) }

/-- R17: the check of a unit that is no duplicate. -/
def checkSequence (u : CarriageUnit) (s : State) : State :=
  let gap := sequenceCase s.merge.refs u == .gap
  { s with
    merge := { s.merge with refs := withReference u s.merge.refs }
    outA := s.outA.afterCheck u gap
    outB := s.outB.afterCheck u gap
    alerts := s.alerts.latchIf gap .feedGap }

/-! ### The Descrambler (R84, R85) -/

/-- R84: the word of a slot for a key phase. -/
def KeySlot.word (slot : KeySlot) : KeyPhase → Option (BitVec 64)
  | .phaseA => slot.wordA
  | .phaseB => slot.wordB
  | .clear => none
  | .noMeaning => none

/-- R84: the key word of the label and phase of a unit. -/
def wordFor (slots : List (Option KeySlot)) (u : CarriageUnit) : Option (BitVec 64) :=
  match (slots.filterMap id).find? (fun k => k.label == u.label.toNat) with
  | some k => k.word u.phase
  | none => none

/-- R84: the outcome of a unit, the payload handed on, and the keystream register after it (log 17). -/
def descramble (keys : KeyTable) (u : CarriageUnit) : Outcome × List Byte × Register31 :=
  if u.phase = .clear then (.clear, u.payload, keys.keystream)
  else
    match wordFor keys.slots u with
    | none => (.noKey, u.payload, keys.keystream)
    | some w =>
      let made := descrambleBytes (keystreamSeed w u.label u.sequence) u.payload
      (.descrambled, made.1, made.2)

/-- R78: the used flag of the slot of a label is set. -/
def markUsed (label : Nat) (slots : List (Option KeySlot)) : List (Option KeySlot) :=
  slots.map fun slot => slot.map fun k => if k.label = label then { k with used := true } else k

/-- R78, R84: the Key Table after the Descrambler has taken a unit. -/
def KeyTable.afterUnit (keys : KeyTable) (u : CarriageUnit) : KeyTable :=
  { keys with
    slots := if (descramble keys u).1 = .descrambled then markUsed u.label.toNat keys.slots else keys.slots
    keystream := (descramble keys u).2.2 }

/-! ### Gating (R163 to R165) -/

/-- R163: the verdict of a unit for one output, from its admission, its outcome and the entry-wait
flag. -/
def unitVerdict (admission : Verdict) (outcome : Outcome) (entryWait start : Bool) : Verdict :=
  if !admission.passes then admission
  else if outcome = .noKey then .noKey
  else if entryWait && !start then .entryWait
  else admission

/-- R164: the unit placed in an Output Queue. -/
def placedUnit (u : CarriageUnit) (payload : List Byte) (verdict : Verdict) : CarriageUnit :=
  { u with phase := .clear, payload := if verdict.passes then payload else zeros 124 }

/-- R160: the output state that a verdict gives. -/
def stateFor (verdict : Verdict) : OutputState :=
  if verdict.passes then .passing else if verdict = .entryWait then .entryWait else .blanked

/-- R163 to R165: a unit gated for an output with a verdict: it joins the queue, or it is dropped at a
full one. -/
def Output.gated (out : Output) (u : CarriageUnit) (stamp : BitVec 24) (payload : List Byte)
    (verdict : Verdict) : Output :=
  if out.queue.length < 32 then
    { out with
      queue := out.queue ++ [{ unit := placedUnit u payload verdict, stamp := stamp, verdict := verdict }]
      entryWait := !verdict.passes
      viewed := out.viewed || verdict.passes
      state := stateFor verdict
      last := verdict }
  else { out with entryWait := true, state := .entryWait, last := verdict }

/-- R165: the unit gated for this output is dropped. -/
def overruns (out : Output) : Bool := decide (32 ≤ out.queue.length)

/-- R162, R163: the verdict of a unit for an output that selects its label. -/
def verdictFor (s : State) (u : CarriageUnit) (outcome : Outcome) (out : Output) : Verdict :=
  unitVerdict (admissionOf s u.label.toNat) outcome out.entryWait u.start

/-- R163 to R165: the gate takes a unit for one output; an output that does not select the label is
left as it is. -/
def gatedOutput (s : State) (u : CarriageUnit) (stamp : BitVec 24) (outcome : Outcome)
    (payload : List Byte) (out : Output) : Output :=
  if out.selected = u.label.toNat then out.gated u stamp payload (verdictFor s u outcome out) else out

/-- R84, R162 to R165: the Descrambler and the gate take a unit handed on by the Classifier. -/
def presentUnit (u : CarriageUnit) (stamp : BitVec 24) (s : State) : State :=
  let made := descramble s.keys u
  { s with
    keys := s.keys.afterUnit u
    outA := gatedOutput s u stamp made.1 made.2.1 s.outA
    outB := gatedOutput s u stamp made.1 made.2.1 s.outB
    alerts := s.alerts.latchIf
      ((s.outA.selected == u.label.toNat && overruns s.outA)
        || (s.outB.selected == u.label.toNat && overruns s.outB))
      .outputOverrun }

/-! ### The commands -/

/-- R15: the classification of a media unit. -/
def classifyMedia (u : CarriageUnit) (stamp : BitVec 24) (s : State) : State :=
  let label := u.label.toNat
  if (serviceRow s label).isNone then s
  else if !isSelected s label then s
  else if s.merge.shed == .shedding && s.outB.selected == label && s.outA.selected != label then s
  else if sequenceCase s.merge.refs u = .duplicate then s
  else presentUnit u stamp (checkSequence u s)

/-- MEDIA_UNIT (R15): the Classifier takes a media unit; a commit that stands due is made when the
gate has finished with it (R67, log 6). -/
def execMediaUnit (s : State) : Host.Outcome State Fault Refusal :=
  .next
    (match feedHead s with
     | some u =>
       if feedRow s.install u.unit = .media then commitsDue (classifyMedia u.unit u.stamp (tookFeed s))
       else s
     | none => s)

/-- DISCARDED_FEED_UNIT (R2, R13): the unit is taken and discarded; nothing latches. -/
def execDiscardedFeedUnit (s : State) : Host.Outcome State Fault Refusal :=
  .next (onFeed .discarded (fun _ s => s) s)

end Sys2Proof.Machine
end

