-- ==== Sys2Proof/Machine/Ports.lean ====
section
/-!
DEFINITION. The return port (R32, R33, R152, R153) and the Output Stages (R166). Each command carries
the level of the port's ready line (log 7). Between a unit's BEGIN and its END its bytes leave with the
microseconds of the clock, and the port's place within it is in State (log 8).
-/
namespace Sys2Proof.Machine

/-- §11.3: the payload of a result unit. -/
def resultPayload (r : Result) : List Byte :=
  [r.tag, r.kind, r.code.code] ++ beBytes 1 r.body.length ++ r.body

/-- R149, R176: the amount of a record, 0 in an END. -/
def BillingEntry.amount : BillingEntry → Nat
  | .charge amount _ _ => amount
  | .ended _ _ => 0

/-- R149, R176: the position of a record, 0 in an END. -/
def BillingEntry.position : BillingEntry → Nat
  | .charge _ position _ => position
  | .ended _ _ => 0

/-- R149, R176: the repetition of a record, 0 in an END. -/
def BillingEntry.repetition : BillingEntry → Nat
  | .charge _ _ repetition => repetition
  | .ended _ _ => 0

/-- R149, R176: the end reason of a record, 0 in a CHARGE. -/
def BillingEntry.reason : BillingEntry → Nat
  | .charge _ _ _ => 0
  | .ended reason _ => reason.code

/-- R149, R176: the total of a record, 0 in a CHARGE. -/
def BillingEntry.total : BillingEntry → Nat
  | .charge _ _ _ => 0
  | .ended _ total => total

/-- §11.4: the billing kind. -/
def BillingEntry.kind : BillingEntry → Nat
  | .charge _ _ _ => 1
  | .ended _ _ => 2

/-- R152, §11.3: the payload of a billing unit; the re-offer flag is the record's offered mark. -/
def billingPayload (r : BillingRecord) : List Byte :=
  beBytes 2 r.serial ++ beBytes 1 r.entry.kind ++ beBytes 1 (bit r.timeUnknown + 2 * bit r.offered)
    ++ beBytes 2 r.room ++ beBytes 2 r.tenancyId ++ beBytes 1 r.purchase ++ beBytes 1 r.entry.reason
    ++ beBytes 2 r.film ++ beBytes 1 r.entry.position ++ beBytes 1 r.entry.repetition
    ++ beBytes 4 r.entry.amount ++ beBytes 4 r.entry.total ++ beBytes 2 r.day ++ beBytes 4 r.second

/-- RET_RDY is sampled at a level (log 7). -/
def sampleReturn (ready : Bool) (s : State) : State := { s with port := { s.port with ready := ready } }

/-- R33: the arbiter may choose: no unit is in progress and the ready line is asserted. -/
def portFree (s : State) : Bool := live s && s.port.ready && s.port.inProgress.isNone

/-- R32, R166: the bytes of a unit as they leave: the unit-start indication marks the first of them and no
other. -/
def Sending.marked (x : Sending) : List PortByte :=
  x.bytes.zipIdx.map fun b => { byte := b.1, unitStart := decide (b.2 = 0) }

/-- R32, R166: the byte at the port, which leaves next: that of the port's place within the unit. -/
def Sending.atPort (x : Sending) : Option PortByte := x.marked[x.sent]?

/-- §11.5: RET_D and RET_SOU, while a unit is in progress on the return port. -/
def returnByte (s : State) : Option PortByte := s.port.inProgress.bind fun u => u.toSending.atPort

/-- §11.5: OUTA_D and OUTA_SOU, OUTB_D and OUTB_SOU, while a unit is in transfer. -/
def outputByte (s : State) (o : OutputId) : Option PortByte := (output s o).transfer.bind Sending.atPort

/-- R32, R166: the place after `n` more bytes; the last byte of a unit leaves with its END (log 8). -/
def Sending.advance (n : Nat) (x : Sending) : Sending :=
  { x with sent := max x.sent (min (x.sent + n) (x.bytes.length - 1)) }

/-- R32: a microsecond of the return port, in which `n` bytes can leave: while the line is deasserted
the port holds its place. -/
def ReturnPort.advance (n : Nat) (p : ReturnPort) : ReturnPort :=
  { p with
    inProgress := p.inProgress.map fun u =>
      if p.ready then { u with toSending := u.toSending.advance n } else u }

/-- R32, R33: the oldest result is begun. -/
def beginResult (s : State) : State :=
  match s.results with
  | r :: _ =>
    if portFree s then
      { s with
        port := { s.port with
          resultSeq := s.port.resultSeq + 1
          inProgress := some
            { kind := .result
              bytes := (returnUnit 4093 s.port.resultSeq (resultPayload r)).bytes
              sent := 0 } } }
    else s
  | [] => s

/-- RESULT_UNIT_BEGIN (R33). -/
def execResultUnitBegin (ready : Bool) (s : State) : Host.Outcome State Fault Refusal :=
  .next (beginResult (sampleReturn ready s))

/-- R33: what the unit in progress on the return port is. -/
def kindInProgress (s : State) : Option ReturnKind := s.port.inProgress.map fun u => u.kind

/-- R28, R33: the last byte of a result unit leaves, and the result leaves the Result Queue. -/
def endResult (s : State) : State :=
  match kindInProgress s with
  | some .result =>
    if live s && s.port.ready then
      { s with port := { s.port with inProgress := none }, results := s.results.tail }
    else s
  | some (.billing _) => s
  | none => s

/-- RESULT_UNIT_END (R28, R32). -/
def execResultUnitEnd (ready : Bool) (s : State) : Host.Outcome State Fault Refusal :=
  .next (endResult (sampleReturn ready s))

/-- R151, R152: the record that the offer position names. -/
def offeredRecord (s : State) : Option BillingRecord :=
  s.offer.bind fun serial => s.ret.records.find? (fun r => r.serial == serial)

/-- R33, R152: with no result waiting, a billing unit of the record at the offer position is begun; no
state of the Billing Queue changes. -/
def beginBilling (s : State) : State :=
  match offeredRecord s with
  | some r =>
    if portFree s && s.results.isEmpty then
      { s with
        port := { s.port with
          billingSeq := s.port.billingSeq + 1
          inProgress := some
            { kind := .billing r.serial
              bytes := (returnUnit 4092 s.port.billingSeq (billingPayload r)).bytes
              sent := 0 } } }
    else s
  | none => s

/-- BILLING_UNIT_BEGIN (R33, R152). -/
def execBillingUnitBegin (ready : Bool) (s : State) : Host.Outcome State Fault Refusal :=
  .next (beginBilling (sampleReturn ready s))

/-- R153: the record of a serial takes its offered mark. -/
def markOffered (serial : Nat) (records : List BillingRecord) : List BillingRecord :=
  records.map fun r => if r.serial = serial then { r with offered := true } else r

/-- R153: the offer position after the notice of a serial in the queue. -/
def offerAfterNotice (serial : Nat) (records : List BillingRecord) (offer : Option Nat) : Option Nat :=
  if offer = some serial then oldestSerial (newerThan serial records) else offer

/-- R153: the Billing Queue takes the notice of a serial. -/
def takeNotice (serial : Nat) (s : State) : State :=
  if hasSerial s.ret.records serial then
    testCompletion
      { s with
        ret := { s.ret with records := markOffered serial s.ret.records }
        offer := offerAfterNotice serial s.ret.records s.offer }
  else s

/-- R33, R153: the last byte of a billing unit leaves, and the Billing Queue takes the notice. -/
def endBilling (s : State) : State :=
  match kindInProgress s with
  | some (.billing serial) =>
    if live s && s.port.ready then
      takeNotice serial { s with port := { s.port with inProgress := none } }
    else s
  | some .result => s
  | none => s

/-- BILLING_UNIT_END (R153). -/
def execBillingUnitEnd (ready : Bool) (s : State) : Host.Outcome State Fault Refusal :=
  .next (endBilling (sampleReturn ready s))

/-! ### The Output Stages (R166) -/

/-- §11.2: the trailer of a unit. -/
def trailer (q : QueuedUnit) : List Byte := beBytes 3 q.stamp.toNat ++ [q.verdict.code]

/-- R166: the bytes of a queued unit, with a trailer where the option is ON. -/
def sentBytes (withTrailer : Bool) (q : QueuedUnit) : List Byte :=
  q.unit.bytes ++ (if withTrailer then trailer q else [])

/-- R166: the trailer option in force for an output. -/
def trailerOption (s : State) : OutputId → Bool
  | .a => s.install.trailerA
  | .b => s.install.trailerB

/-- R166: a microsecond of an Output Stage, in which `n` bytes can leave: while the line is deasserted
the stage holds its place. -/
def Output.advance (n : Nat) (out : Output) : Output :=
  { out with transfer := out.transfer.map fun x => if out.ready then x.advance n else x }

/-- R166: an Output Stage begins the oldest unit; `ready` is the level of its ready line. -/
def Output.beginUnit (isLive withTrailer ready : Bool) (out : Output) : Output :=
  let sampled : Output := { out with ready := ready }
  match out.queue with
  | [] => sampled
  | q :: rest =>
    if isLive && ready && out.transfer.isNone then
      { sampled with queue := rest, transfer := some { bytes := sentBytes withTrailer q, sent := 0 } }
    else sampled

/-- OUTPUT_UNIT_BEGIN (R166). -/
def execOutputUnitBegin (o : OutputId) (ready : Bool) (s : State) : Host.Outcome State Fault Refusal :=
  .next (withOutput o ((output s o).beginUnit (live s) (trailerOption s o) ready) s)

/-- R166: the last byte of the unit in transfer leaves; while the line is deasserted the stage holds
its place. -/
def Output.endUnit (isLive ready : Bool) (out : Output) : Output :=
  { out with ready := ready, transfer := if isLive && ready then none else out.transfer }

/-- OUTPUT_UNIT_END (R166). -/
def execOutputUnitEnd (o : OutputId) (ready : Bool) (s : State) : Host.Outcome State Fault Refusal :=
  .next (withOutput o ((output s o).endUnit (live s) ready) s)

end Sys2Proof.Machine
end

