-- ==== Sys2Proof/Machine/Purchases.lean ====
section
/-!
DEFINITION. The Purchase Meter's commands (chapter 8): PURCHASE, PURCHASE VOID and the ends of grace and
of steps (R128 to R144).
-/
namespace Sys2Proof.Machine

/-- R127: the counter from `n` on names a number that no live purchase holds; 255 is followed by 1. -/
def freeNumber (held : List Nat) : Nat → Nat → Nat
  | 0, n => n
  | fuel + 1, n => if held.contains n then freeNumber held fuel (if n = 255 then 1 else n + 1) else n

/-- R127: the counter after a purchase has taken the number it held. -/
def counterAfter (number : Nat) (held : List Nat) : Nat :=
  freeNumber held 255 (if number = 255 then 1 else number + 1)

/-- R126, R130: the purchase that a FILM row opens. -/
def newPurchase (s : State) (r : ServiceRow) : Purchase where
  number := s.ret.nextPurchase
  film := r.film
  state :=
    if r.grace = 0 then .running 0 0 (stepAt (tariffOf s r) 0).duration else .grace r.grace 0 3600
  steps := tariffOf s r
  total := 0
  ceiling := if r.ceiling = 0 then none else some r.ceiling

/-- R125, R127: a purchase joins the tail of the Purchase Table and the counter advances. -/
def addPurchase (p : Purchase) (s : State) : State :=
  { s with
    ret := { s.ret with
      purchases := s.ret.purchases ++ [p]
      nextPurchase := counterAfter p.number ((s.ret.purchases ++ [p]).map (·.number)) } }

/-- R130: an accepted PURCHASE; a film with no grace makes its first charge at once. -/
def acceptPurchase (r : ServiceRow) (s : State) : State :=
  let p := newPurchase s r
  let opened := addPurchase p s
  if r.grace = 0 then beginRepetition p.number 0 0 opened else opened

/-- R128, check 8: the result code of a lock verdict. -/
def lockRefusal (s : State) (r : ServiceRow) : Option ResultCode :=
  match lockTest s r.rating with
  | .locked => some .locked
  | .barred => some .barred
  | .outOfWindow => some .outOfWindow
  | .pass => none
  | .none => none
  | .passOverride => none
  | .noService => none
  | .notEntitled => none
  | .notPurchased => none
  | .noKey => none
  | .entryWait => none

/-- R129, check 11: the first charge of a film. -/
def firstCharge (s : State) (r : ServiceRow) : Nat :=
  chargeAmount (newPurchase s r) 0 0

/-- R129, check 11: the spend limit refuses the first charge. -/
def overLimit (s : State) (r : ServiceRow) : Bool :=
  ((guest s).map (·.spendLimit)).getD 0 == 0 || decide (allowance s < firstCharge s r)

/-- R128, checks 6 to 11 for the row of the label: the refusal, if a check fails. -/
def filmRefusal (s : State) (r : ServiceRow) : Option ResultCode :=
  if r.access ≠ .film then some .notFilm
  else if isBought s r.film then some .already
  else
    match lockRefusal s r with
    | some code => some code
    | none =>
      if 8 ≤ s.ret.purchases.length then some .purchasesFull
      else if 32 < s.ret.records.length + s.ret.purchases.length + 1 then some .billingFull
      else if overLimit s r then some .limit
      else none

/-- R128, from check 5 on, with the billing day evaluated (R129). -/
def buyFilm (label : Nat) (s : State) : Reply :=
  match serviceRow s label with
  | none => (s, .noService, [])
  | some r =>
    match filmRefusal s r with
    | some code => (s, code, [])
    | none => (acceptPurchase r s, .done, BitVec.ofNat 8 s.ret.nextPurchase :: zeros 3)

/-- R128: the eleven ordered checks of PURCHASE. -/
def buy (label : Nat) (s : State) : Reply :=
  if s.ret.tenancy = .closing then (s, .closing, [])
  else if s.emergency.isSome then (s, .override, [])
  else if s.time.building.isNone then (s, .timeUnset, [])
  else if s.ret.tenancy = .vacant then (s, .vacant, [])
  else buyFilm label (evalBillingDay s)

/-- PURCHASE (R128). -/
def execPurchase (s : State) : Host.Outcome State Fault Refusal :=
  .next (onCommand .purchase readPurchase buy s)

/-- R144: the live purchase of a film ends with reason VOID; without one nothing happens. -/
def voidFilm (film : Nat) (s : State) : State :=
  match s.ret.purchases.find? (fun p => p.film == film) with
  | some p => endPurchase p.number .void s
  | none => s

/-- PURCHASE_VOID (R144). -/
def execPurchaseVoid (s : State) : Host.Outcome State Fault Refusal :=
  .next (onDirective .purchaseVoid readNumber voidFilm s)

/-- R134: on the second event that the meter owes, the grace of this purchase is used up. -/
def graceEnds (s : State) (p : Purchase) : Bool :=
  match p.state with
  | .grace needed seen _ => isViewed s p.film && seen + 1 == needed
  | .running _ _ _ => false

/-- R134: on the second event that the meter owes, this purchase lapses. -/
def graceLapses (s : State) (p : Purchase) : Bool :=
  match p.state with
  | .grace _ _ lapse => !isViewed s p.film && lapse - 1 == 0
  | .running _ _ _ => false

/-- R135: on the second event that the meter owes, the present repetition of this purchase is over. -/
def repetitionEnds (s : State) (p : Purchase) : Bool :=
  match p.state with
  | .grace _ _ _ => false
  | .running position _ remaining =>
    (((stepAt p.steps position).measure == .elapsed || isViewed s p.film) && remaining - 1 == 0)

/-- R133: the meter owes the last second event (log 5), and on it `ends` holds of a live purchase. -/
def meterOwes (ends : State → Purchase → Bool) (s : State) : Bool :=
  running s && s.model.due.contains .meter && s.emergency.isNone && s.ret.purchases.any (ends s)

/-- R133: the Purchase Meter takes the second event it owes whole. -/
def payMeter (s : State) : State := meterSecond (paid .meter s)

/-- GRACE_USED_UP (R134): the meter takes, in a step of its own, a second event on which the grace of a
purchase is used up (log 5). -/
def execGraceUsedUp (s : State) : Host.Outcome State Fault Refusal :=
  .next (if meterOwes graceEnds s then payMeter s else s)

/-- GRACE_LAPSE (R134): the meter takes, in a step of its own, a second event on which a purchase
lapses (log 5). -/
def execGraceLapse (s : State) : Host.Outcome State Fault Refusal :=
  .next (if meterOwes graceLapses s then payMeter s else s)

/-- STEP_REMAINING_END (R135): the meter takes, in a step of its own, a second event on which a
repetition is over (log 5). -/
def execStepRemainingEnd (s : State) : Host.Outcome State Fault Refusal :=
  .next (if meterOwes repetitionEnds s then payMeter s else s)

end Sys2Proof.Machine
end

