-- ==== Sys2Proof/Machine/Starts.lean ====
section
/-!
DEFINITION. The commands of the supplies, the reset line and the installation read (chapter 6): R89 to
R96.
-/
namespace Sys2Proof.Machine

/-- POWER_UP (R92): the supplies come up and the part makes a start. With the main supply already
present no power-up happens (log 1). -/
def execPowerUp (s : State) : Host.Outcome State Fault Refusal :=
  .next
    (if s.power.mainSupply then s
     else makeStart { s with power := { s.power with mainSupply := true, standbySupply := true } })

/-- RESET_HELD_LOW (R93): from now on no block takes any event; the retained area stands. -/
def execResetHeldLow (s : State) : Host.Outcome State Fault Refusal :=
  .next { s with power := { s.power with resetLow := true } }

/-- RESET_RELEASE (R93): the line rises, and a powered part whose line was held low makes a start
(log 12). -/
def execResetRelease (s : State) : Host.Outcome State Fault Refusal :=
  .next
    (let released : State := { s with power := { s.power with resetLow := false } }
     if s.power.mainSupply && s.power.resetLow then makeStart released else released)

/-- STANDBY_SUPPLY_LOSS (R91): with the main supply off, the whole retained area is lost (log 11). -/
def execStandbySupplyLoss (s : State) : Host.Outcome State Fault Refusal :=
  .next
    (let off : State := { s with power := { s.power with standbySupply := false } }
     if s.power.standbySupply && !s.power.mainSupply then loseRetained off else off)

/-- MAIN_SUPPLY_LOSS (R91): the part stops; the standby supply, where present, keeps the retained area
(log 11). -/
def execMainSupplyLoss (s : State) : Host.Outcome State Fault Refusal :=
  .next
    (let off : State := { s with power := { s.power with mainSupply := false } }
     if s.power.mainSupply && !s.power.standbySupply then loseRetained off else off)

/-- COLD_START_WRITES_END (R95): the retained area is clear and the validity word written, and the
installation read begins, with its signature register loaded with the seed (R89). -/
def execColdStartWritesEnd (s : State) : Host.Outcome State Fault Refusal :=
  .next
    (if live s && s.power.phase == .coldWrites then
      { s with
        power := { s.power with valid := true, phase := .reading }
        ret := Retained.cold
        readSig := sigSeed }
     else s)

/-- R90: the values that a read puts in force: those of the record, or the defaults. -/
def installationOf (bytes : List Byte) : Installation :=
  if readPasses bytes then readInstallation bytes
  else { Installation.default with fault := true }

/-- R40, R90: the Alert Unit takes the levels and the sense; INSTALLATION FAULT latches where the read
failed. -/
def alertsAfterRead (bytes : List Byte) (a : AlertUnit) : AlertUnit :=
  { a.latchIf (!readPasses bytes) .installationFault with
    levels := if readPasses bytes then readLevels bytes else List.replicate 15 3
    sense := if readPasses bytes then readSense bytes else .rising }

/-- R96, R120: the start-up completion. A CLOSING tenancy completes, the live purchases of an OCCUPIED
one end with reason POWER, and the window membership is evaluated. -/
def startUpCompletion (s : State) : State :=
  match s.ret.tenancy with
  | .closing => completeTenancy s
  | .occupied => evalMembership (endAll .power s)
  | .vacant => evalMembership s

/-- INSTALLATION_READ_END (R90): the values are put in force, the shed state is evaluated against the
new thresholds (R8), STARTING ends, and the start-up completion is made. The signature register of the read
holds the seed until this end and keeps its final value after it (the model's choice, log 17). -/
def execInstallationReadEnd (memory : List Byte) (s : State) : Host.Outcome State Fault Refusal :=
  .next
    (if live s && s.power.phase == .reading then
      let bytes := memoryBytes memory
      startUpCompletion (evalShed
        { s with
          power := { s.power with phase := .running }
          install := installationOf bytes
          readSig := signature (bytes.take 64)
          alerts := alertsAfterRead bytes s.alerts })
     else s)

end Sys2Proof.Machine
end

