-- ==== Sys2Proof/Machine/Tables.lean ====
section
/-!
DEFINITION. The Table Loader (chapter 4): R55 to R67.
-/
namespace Sys2Proof.Machine

/-- The generation a stage holds (R55). -/
def Stage.generation : Stage → Option Nat
  | .idle => none
  | .filling g _ => some g
  | .checking g _ _ _ => some g
  | .waiting g _ _ => some g

/-- R57: a stage that is being checked or waits on this generation ignores a TABLE OPEN of it. -/
def Stage.holdsClosed (stage : Stage) (g : Nat) : Bool :=
  match stage with
  | .idle => false
  | .filling _ _ => false
  | .checking h _ _ _ => h == g
  | .waiting h _ _ => h == g

/-- R57, R61: TABLE OPEN taken by the machine of its table. A check that it abandons leaves the signature
register at the seed until the next check begins (the model's choice, log 17). -/
def openTable (t : Table) (g : Nat) (m : TableMachine) : TableMachine :=
  if g = m.activeGen ∨ m.stage.holdsClosed g = true then m
  else { m with stage := .filling g (vacantTable t) }

/-- TABLE_OPEN (R57). -/
def execTableOpen (s : State) : Host.Outcome State Fault Refusal :=
  .next
    (onDirective .tableOpen readTableOpen
      (fun x s => withMachine x.1 (openTable x.1 x.2 (machine s x.1)) s) s)

/-- R58: images written into a stage from an index on. -/
def writeRows (rows : List Image) (first : Nat) (new : List Image) : List Image :=
  rows.take first ++ new ++ rows.drop (first + new.length)

/-- R58: TABLE ROWS taken by the machine of its table. -/
def rowsInto (x : RowsOperands) (m : TableMachine) : TableMachine :=
  match m.stage with
  | .filling g rows =>
    if g = x.generation then { m with stage := .filling g (writeRows rows x.first x.rows) } else m
  | .idle => m
  | .checking _ _ _ _ => m
  | .waiting _ _ _ => m

/-- TABLE_ROWS (R58). -/
def execTableRows (s : State) : Host.Outcome State Fault Refusal :=
  .next
    (onDirective .tableRows readTableRows
      (fun x s => withMachine x.table (rowsInto x (machine s x.table)) s) s)

/-- R59, R60: TABLE CLOSE taken by the machine of its table; the signature register takes the seed, which
it holds while the check runs (the model's choice, log 17). -/
def closeTable (x : CloseOperands) (m : TableMachine) : TableMachine :=
  match m.stage with
  | .filling g rows =>
    if g = x.generation then
      { m with stage := .checking g rows x.expected x.activation, sigReg := sigSeed }
    else m
  | .idle => m
  | .checking _ _ _ _ => m
  | .waiting _ _ _ => m

/-- TABLE_CLOSE (R59). -/
def execTableClose (s : State) : Host.Outcome State Fault Refusal :=
  .next
    (onDirective .tableClose readTableClose
      (fun x s => withMachine x.table (closeTable x (machine s x.table)) s) s)

/-- R60, R68: the signature of a stage: its images in order, each byte by byte. -/
def stageSignature (rows : List Image) : Register31 := signature rows.flatten

/-- R64: the machine with the final value of the check recorded; the register keeps it until the next check
begins (the model's choice, log 17). -/
def recordSignature (sig : Register31) (m : TableMachine) : TableMachine :=
  { m with sigReg := sig, lastSig := some sig }

/-- R64: the check has failed: the stage is discarded and TABLE REJECTED latches. -/
def rejectStage (t : Table) (m : TableMachine) (s : State) : State :=
  latch .tableRejected (withMachine t { m with stage := .idle } s)

/-- CHECK_COMPLETION (R64): the check of a table ends; with no check of it running nothing happens
(log 1). -/
def execCheckCompletion (t : Table) (s : State) : Host.Outcome State Fault Refusal :=
  .next
    (match (machine s t).stage with
     | .checking g rows expected activation =>
       if live s && !(machine s t).commitDue then
         let m := recordSignature (stageSignature rows) (machine s t)
         if (stageSignature rows).toNat = expected ∧ stageOk t rows = true then
           let later := (nextChoice s).later.contains .loader
           match activation with
           | none => decideCommit later t (usedChoice (withMachine t m s))
           | some due =>
             if reached s.time.building due then decideCommit later t (usedChoice (withMachine t m s))
             else withMachine t { m with stage := .waiting g rows due } s
         else rejectStage t m s
       else s
     | .idle => s
     | .filling _ _ => s
     | .waiting _ _ _ => s)

/-- TABLE_ACTIVATION (R66): a PENDING stage finds building time at or past its activation time. The
Table Loader takes it in a step of its own where the second event left it to (log 5). -/
def execTableActivation (t : Table) (s : State) : Host.Outcome State Fault Refusal :=
  .next
    (if live s && activates s t then
      decideCommit ((nextChoice s).later.contains .loader) t (usedChoice s)
     else s)

/-- TABLE_COMMIT (R67): a commit that has been decided is made. -/
def execTableCommit (t : Table) (s : State) : Host.Outcome State Fault Refusal :=
  .next (if live s then commitIfDue t s else s)

end Sys2Proof.Machine
end

