-- ==== Sys2Proof/Machine/Tenancy.lean ====
section
/-!
DEFINITION. Room records and the change of tenancy (chapter 6): R97 to R106.
-/
namespace Sys2Proof.Machine

/-- R99: the record replaces or fills the pending slot. -/
def takePending (r : RoomRecord) (s : State) : State :=
  { s with ret := { s.ret with waiting := some r } }

/-- R100: the record replaces the active record, and the active record changed event is raised. -/
def replaceActive (old new : RoomRecord) (s : State) : State :=
  let choice := nextChoice s
  let replaced : State := { usedChoice s with ret := { s.ret with active := some new } }
  (inOrder choice.order [.keys, .lock, .meter, .gate]).foldl
    (fun s c => takeRecordChanged (lockFieldsDiffer old new) c s) replaced

/-- R100: a record for the active slot, taken when the tenancy is OCCUPIED and the tenancy ids are
equal, and otherwise ignored with DIRECTIVE FAULT. -/
def takeActive (r : RoomRecord) (s : State) : State :=
  match guest s with
  | some old => if r.tenancyId = old.tenancyId then replaceActive old r s else latch .directiveFault s
  | none => latch .directiveFault s

/-- ROOM_RECORD (R98 to R100). -/
def execRoomRecord (s : State) : Host.Outcome State Fault Refusal :=
  .next
    (onDirective .roomRecord readRoomRecord
      (fun x s => if x.1 then takeActive x.2 s else takePending x.2 s) s)

/-- R103: the part enters CLOSING. -/
def enterClosing (s : State) : State :=
  { s with
    ret := { s.ret with tenancy := .closing, incoming := s.ret.waiting, waiting := none }
    closing := some (s.time.mono + 60) }

/-- R102 to R104: a change of tenancy begins: CLOSING, the reactions of the consumers of the CLOSING
start event, and the first test of the completion condition. -/
def beginClosing (s : State) : State :=
  let choice := nextChoice s
  testCompletion
    ((inOrder choice.order [.meter, .keys, .lock, .gate]).foldl (fun s c => takeClosing c s)
      (enterClosing (usedChoice s)))

/-- TENANCY_CHANGE (R102): one taken during CLOSING is ignored. -/
def execTenancyChange (s : State) : Host.Outcome State Fault Refusal :=
  .next
    (onDirective .tenancyChange readNoBody
      (fun _ s => if s.ret.tenancy = .closing then s else beginClosing s) s)

/-- COMPLETION_TIMEOUT (R105): the completion expiry is reached, and the Tenancy Unit takes the second
event that reached it in a step of its own (log 5). -/
def execCompletionTimeout (s : State) : Host.Outcome State Fault Refusal :=
  .next (if timeoutReached s then completeTenancy (paid .tenancy s) else s)

end Sys2Proof.Machine
end

