-- ==== Sys2Proof/Machine/Time.lean ====
section
/-!
DEFINITION. The Time Base (chapter 3): the time mark (R44, R45) and the second event (R41).
-/
namespace Sys2Proof.Machine

/-- TIME_MARK (R44, R45): a malformed mark is discarded and DIRECTIVE FAULT latches; another is
adopted. -/
def execTimeMark (s : State) : Host.Outcome State Fault Refusal :=
  .next
    (onFeed .timeMark
      (fun u s =>
        match readTimeMark u.payload with
        | some t => adoptTime t s
        | none => latch .directiveFault s)
      s)

/-- SECOND_EVENT (R41, R43, R47): raised in every state of a part that takes events, STARTING
included. -/
def execSecondEvent (s : State) : Host.Outcome State Fault Refusal :=
  .next (if live s then secondEvent s else s)

/-- One microsecond of the clock (R5, R41): the arrival-stamp counter and the one-second divider
advance, and the ports out send a free number of bytes of their units (R32, R166; log 8). It is what a
step on the empty queue does (log 3). -/
def tick (s : State) : State :=
  if live s then
    { s with
      merge := { s.merge with stamp := s.merge.stamp + 1 }
      time := { s.time with divider := s.time.divider + 1 }
      port := s.port.advance (Config.bytesLeaving .returnPort s.model.drawn)
      outA := s.outA.advance (Config.bytesLeaving (.output .a) s.model.drawn)
      outB := s.outB.advance (Config.bytesLeaving (.output .b) s.model.drawn)
      model := { s.model with drawn := s.model.drawn + 1 } }
  else s

end Sys2Proof.Machine
end

