-- ==== Sys2Proof/Machine/Dispatch.lean ====
section
/-!
DEFINITION. One arm per command: each calls the meaning of its row of spec/opcode_table.json.
-/
namespace Sys2Proof.Machine

def exec (i : Instr) (s : State) : Host.Outcome State Fault Refusal :=
  match i with
  | .powerUp => Sys2Proof.Machine.execPowerUp s
  | .resetHeldLow => Sys2Proof.Machine.execResetHeldLow s
  | .resetRelease => Sys2Proof.Machine.execResetRelease s
  | .standbySupplyLoss => Sys2Proof.Machine.execStandbySupplyLoss s
  | .installationReadEnd memory => Sys2Proof.Machine.execInstallationReadEnd memory s
  | .feedUnitArrival bytes => Sys2Proof.Machine.execFeedUnitArrival bytes s
  | .localInsertByte byte => Sys2Proof.Machine.execLocalInsertByte byte s
  | .mediaUnit => Sys2Proof.Machine.execMediaUnit s
  | .discardedFeedUnit => Sys2Proof.Machine.execDiscardedFeedUnit s
  | .timeMark => Sys2Proof.Machine.execTimeMark s
  | .keyUnit => Sys2Proof.Machine.execKeyUnit s
  | .directiveIgnored => Sys2Proof.Machine.execDirectiveIgnored s
  | .tableOpen => Sys2Proof.Machine.execTableOpen s
  | .tableRows => Sys2Proof.Machine.execTableRows s
  | .tableClose => Sys2Proof.Machine.execTableClose s
  | .checkCompletion table => Sys2Proof.Machine.execCheckCompletion table s
  | .tableActivation table => Sys2Proof.Machine.execTableActivation table s
  | .tableCommit table => Sys2Proof.Machine.execTableCommit table s
  | .roomRecord => Sys2Proof.Machine.execRoomRecord s
  | .tenancyChange => Sys2Proof.Machine.execTenancyChange s
  | .completionTimeout => Sys2Proof.Machine.execCompletionTimeout s
  | .lockReset => Sys2Proof.Machine.execLockReset s
  | .purchaseVoid => Sys2Proof.Machine.execPurchaseVoid s
  | .billingReceipt => Sys2Proof.Machine.execBillingReceipt s
  | .billingPoll => Sys2Proof.Machine.execBillingPoll s
  | .emergencyOn => Sys2Proof.Machine.execEmergencyOn s
  | .emergencyOff => Sys2Proof.Machine.execEmergencyOff s
  | .refusedUnit => Sys2Proof.Machine.execRefusedUnit s
  | .unknownCommand => Sys2Proof.Machine.execUnknownCommand s
  | .select => Sys2Proof.Machine.execSelect s
  | .purchase => Sys2Proof.Machine.execPurchase s
  | .pinEntry => Sys2Proof.Machine.execPinEntry s
  | .relock => Sys2Proof.Machine.execRelock s
  | .query => Sys2Proof.Machine.execQuery s
  | .alertSetup => Sys2Proof.Machine.execAlertSetup s
  | .alertClear => Sys2Proof.Machine.execAlertClear s
  | .secondEvent => Sys2Proof.Machine.execSecondEvent s
  | .sessionExpiry => Sys2Proof.Machine.execSessionExpiry s
  | .lockoutExpiry => Sys2Proof.Machine.execLockoutExpiry s
  | .graceUsedUp => Sys2Proof.Machine.execGraceUsedUp s
  | .graceLapse => Sys2Proof.Machine.execGraceLapse s
  | .stepRemainingEnd => Sys2Proof.Machine.execStepRemainingEnd s
  | .resultUnitBegin ready => Sys2Proof.Machine.execResultUnitBegin ready s
  | .resultUnitEnd ready => Sys2Proof.Machine.execResultUnitEnd ready s
  | .billingUnitBegin ready => Sys2Proof.Machine.execBillingUnitBegin ready s
  | .billingUnitEnd ready => Sys2Proof.Machine.execBillingUnitEnd ready s
  | .outputUnitBegin output ready => Sys2Proof.Machine.execOutputUnitBegin output ready s
  | .outputUnitEnd output ready => Sys2Proof.Machine.execOutputUnitEnd output ready s
  | .feedInterfaceDiscard why => Sys2Proof.Machine.execFeedInterfaceDiscard why s
  | .mainSupplyLoss => Sys2Proof.Machine.execMainSupplyLoss s
  | .coldStartWritesEnd => Sys2Proof.Machine.execColdStartWritesEnd s

end Sys2Proof.Machine
end

