-- ==== Sys2Proof/Safety.lean ====
section
/-!
DEFINITION. What a safe BW-3216 is: the properties that its rules promise of every state, in the terms
that statements use.
-/
namespace Sys2Proof.Machine

/-- R6, R10, R4, R28, R73, R165: every FIFO, buffer and queue of the part that is not retained is
within its capacity. R32, R166: a unit on the return port has 128 bytes, and of a unit in progress the
last byte has not left. -/
abbrev WithinCapacity (s : State) : Prop :=
  s.merge.feed.length ≤ 64 ∧ s.merge.localQ.length ≤ 8 ∧ s.merge.asm.length < 128
    ∧ s.results.length ≤ 8 ∧ s.keys.slots.length = 24
    ∧ s.outA.queue.length ≤ 32 ∧ s.outB.queue.length ≤ 32
    ∧ (∀ u ∈ s.port.inProgress, u.bytes.length = 128 ∧ u.sent < 128)
    ∧ (∀ x ∈ s.outA.transfer, x.sent < x.bytes.length) ∧ (∀ x ∈ s.outB.transfer, x.sent < x.bytes.length)

/-- R35, R37: fifteen levels, each 1 to 6, and a mask level of 0 to 7. -/
abbrev LevelsKept (s : State) : Prop :=
  s.alerts.levels.length = 15 ∧ (∀ n ∈ s.alerts.levels, 1 ≤ n ∧ n ≤ 6) ∧ s.alerts.mask ≤ 7

/-- R139: where the retained area is whole, the records in the Billing Queue plus the live purchases
never exceed 32. -/
abbrev ReservationKept (s : State) : Prop :=
  s.power.valid = true → s.ret.records.length + s.ret.purchases.length ≤ 32

/-- R36: the flag of a level source is set for as long as its condition holds. -/
abbrev ConditionsLatched (s : State) : Prop :=
  ∀ src ∈ AlertSource.all, conditionHolds s src = true → s.alerts.isLatched src = true

/-- The consumers of every event take it in that event's own step (logs 4 to 6). -/
abbrev Prompt (s : State) : Prop :=
  s.model.due = [] ∧ (∀ c ∈ s.model.choices, c.later = [])
    ∧ s.svc.commitDue = false ∧ s.tar.commitDue = false

/-- R167: a passed unit in a queue is one the room may see now. -/
abbrev PassedAdmitted (s : State) (out : Output) : Prop :=
  ∀ q ∈ out.queue, q.verdict.passes = true → (admissionOf s q.unit.label.toNat).passes = true

/-- R120, R167: of a powered part: outside STARTING the window membership is up to date and every
passed unit that waits may be seen now; in STARTING nothing waits. -/
abbrev QueuesAdmitted (s : State) : Prop :=
  s.power.mainSupply = true →
    (s.power.phase = .running →
      s.lock.membership = membershipNow s ∧ PassedAdmitted s s.outA ∧ PassedAdmitted s s.outB)
    ∧ (s.power.phase ≠ .running → s.outA.queue = [] ∧ s.outB.queue = [])

/-- R79: of a powered part: every LOADED slot satisfies the slot test, and in STARTING every slot is
EMPTY. -/
abbrev SlotsEntitled (s : State) : Prop :=
  s.power.mainSupply = true →
    (∀ slot ∈ s.keys.slots, ∀ k ∈ slot, slotOk s k = true)
    ∧ (s.power.phase ≠ .running → ∀ slot ∈ s.keys.slots, slot = none)

/-- R112: of a powered part: the lock is LOCKED whenever the tenancy is not OCCUPIED, and throughout
STARTING. -/
abbrev LockedWithoutGuest (s : State) : Prop :=
  s.power.mainSupply = true →
    (s.ret.tenancy ≠ .occupied → s.lock.state = .locked)
    ∧ (s.power.phase ≠ .running → s.lock.state = .locked)

/-- R150: serials that each follow the one before, and a next serial that follows the last. -/
def serialsChain : List BillingRecord → Nat → Prop
  | [], _ => True
  | [r], next => next = nextSerialAfter r.serial
  | r :: r' :: rest, next => r'.serial = nextSerialAfter r.serial ∧ serialsChain (r' :: rest) next

/-- R150: where the retained area is whole, the records stand oldest first with consecutive serials. -/
def SerialsConsecutive (s : State) : Prop :=
  s.power.valid = true → serialsChain s.ret.records s.ret.nextSerial

/-- R125, R127: where the retained area is whole, there are at most 8 live purchases, no two with one
film id or one number, and the number the counter holds is held by none of them. -/
abbrev PurchasesDistinct (s : State) : Prop :=
  s.power.valid = true →
    s.ret.purchases.length ≤ 8
    ∧ (s.ret.purchases.map (·.film)).Nodup
    ∧ (s.ret.purchases.map (·.number)).Nodup
    ∧ s.ret.nextPurchase ∉ s.ret.purchases.map (·.number)

/-- R16: no two references carry one label, and the label of each is selected. -/
abbrev ReferencesSelected (s : State) : Prop :=
  (s.merge.refs.map (·.label)).Nodup ∧ ∀ r ∈ s.merge.refs, isSelected s r.label = true

/-! ### The terms of the statements -/

/-- R11, R12: the unit `q`, of the row `row`, is the one that the Classifier takes next, from the
building feed. -/
abbrev FeedTakes (s : State) (row : FeedRow) (q : StampedUnit) : Prop :=
  feedHead s = some q ∧ feedRow s.install q.unit = row

/-- R11, R12: the unit `q`, of the row `row`, is the one that the Classifier takes next, from the local
insert. -/
abbrev LocalTakes (s : State) (row : LocalRow) (q : StampedUnit) : Prop :=
  localHead s = some q ∧ localRow q.unit = row

/-- R11, R67: the part once the Classifier has taken the head of the Building Feed FIFO, after the
commits that stood due. -/
abbrev afterFeed (s : State) : State := tookFeed (commitsDue s)

/-- R11, R67: the part once the Classifier has taken the head of the Local Insert FIFO, after the commits
that stood due. -/
abbrev afterLocal (s : State) : State := tookLocal (commitsDue s)

/-- R26, R27: the part with the answer to the command in the unit `q` at the tail of the Result Queue. -/
def answered (q : StampedUnit) (code : ResultCode) (body : List Byte) (s : State) : State :=
  { s with
    results := s.results ++
      [{ tag := byteAt q.unit.payload 1, kind := byteAt q.unit.payload 0, code := code, body := body }] }

/-- R175, R176: fields written one after the other, each given by its width in bytes and its value. -/
def fieldBytes (fields : List (Nat × Nat)) : List Byte := fields.flatMap fun x => beBytes x.1 x.2

/-- R32, R166: a unit that a port is sending, before and after a microsecond: the same bytes; the place
stands while the ready line is deasserted, never goes back, and stays before the last byte. -/
def SentOnward (ready : Bool) (before after : Sending) : Prop :=
  after.bytes = before.bytes ∧ (ready = false → after.sent = before.sent) ∧ before.sent ≤ after.sent
  ∧ (before.sent < before.bytes.length → after.sent < before.bytes.length)

/-- R95: the retained area after a cold start. -/
def coldArea : Retained where
  tenancy := .vacant
  active := none
  waiting := none
  incoming := none
  purchases := []
  spentToday := 0
  billingDay := none
  nextPurchase := 1
  failures := 0
  records := []
  nextSerial := 1

/-- R88: every field of the installation record at its default. -/
def defaultRecord (fault : Bool) : Installation where
  room := 0
  groups := [0, 0, 0, 0, 0, 0, 0, 0]
  shedThr := 48
  resumeThr := 16
  trailerA := false
  trailerB := false
  billingHigh := 24
  fault := fault

/-- R174: the values of one output after any start, its ready line apart. -/
structure OutputStarted (out : Output) : Prop where
  selected : out.selected = 0
  saved : out.saved = 0
  state : out.state = .idle
  entryWait : out.entryWait = false
  viewed : out.viewed = false
  last : out.last = .none
  queue : out.queue = []
  transfer : out.transfer = none

/-- R70: the values of one table machine after any start. -/
structure TableStarted (t : Table) (m : TableMachine) : Prop where
  activeGen : m.activeGen = 0
  active : m.active = List.replicate (tableSize t) (List.replicate (imageSize t) 0)
  stage : m.stage = .idle
  sigReg : m.sigReg = 0x7FFFFFFF
  lastSig : m.lastSig = none
  commitDue : m.commitDue = false

/-- R19, R34, R40, R50, R70, R87, R94, R108, R124, R174: every block at the values of any start. -/
structure StartValues (t : State) : Prop where
  install : t.install = defaultRecord false
  readSig : t.readSig = 0x7FFFFFFF
  merge : t.merge =
    { feedIf := .awaiting, feed := [], asm := [], localQ := [], shed := .normal, stamp := 0,
      pref := .feed, refs := [] }
  time : t.time = { mono := 0, divider := 0, building := none }
  results : t.results = []
  resultSeq : t.port.resultSeq = 0
  billingSeq : t.port.billingSeq = 0
  inProgress : t.port.inProgress = none
  alerts : t.alerts =
    { latched := AlertSource.mask .timeUnset, levels := List.replicate 15 3, sense := .rising, mask := 0 }
  svc : TableStarted .service t.svc
  tar : TableStarted .tariff t.tar
  keys : t.keys = { slots := List.replicate 24 none, loads := 0, keystream := 0x7FFFFFFF }
  lock : t.lock = { state := .locked, membership := .none }
  closing : t.closing = none
  outA : OutputStarted t.outA
  outB : OutputStarted t.outB
  emergency : t.emergency = none

/-- R92, R94, R95, R158: `t` is `s` right after a start, supplies and reset line apart: the retained area
is kept, with every offered mark clear where the start is warm; the offer position names the oldest
record of a warm start; the ready lines (log 7) and the waiting commands are as they were, and no consumer
owes a second event (log 5). -/
structure Started (s t : State) : Prop where
  values : StartValues t
  ret : t.ret =
    if s.power.valid then
      { s.ret with records := s.ret.records.map fun r => { r with offered := false } }
    else s.ret
  offer : t.offer = if s.power.valid then s.ret.records.head?.map (·.serial) else none
  portReady : t.port.ready = s.port.ready
  outAReady : t.outA.ready = s.outA.ready
  outBReady : t.outB.ready = s.outB.ready
  model : t.model = { s.model with due := [] }
  pending : t.pending = s.pending

/-- R140: the billing day that building time gives under a record's billing day start. -/
def billingDayUnder (r : RoomRecord) (b : BuildingTime) : BitVec 16 :=
  if r.billingDayStart ≤ b.second then b.day else b.day - 1

/-- R106, R120, R122, R140, R167: `t` is `s` after the completion of a change of tenancy; the model's own
schedule apart. -/
structure Completed (s t : State) : Prop where
  ret : t.ret =
    { s.ret with
      active := s.ret.incoming
      incoming := none
      tenancy := if s.ret.incoming.isSome then .occupied else .vacant
      spentToday := 0
      billingDay := s.ret.incoming.bind fun r => s.time.building.map fun b => billingDayUnder r b
      failures := 0 }
  closing : t.closing = none
  alerts : t.alerts = s.alerts.latch .tenancyChanged
  lock : t.lock = { state := .locked, membership := membershipNow t }
  outA : t.outA = s.outA.purged (admissionOf t)
  outB : t.outB = s.outB.purged (admissionOf t)
  others : t =
    { s with
      ret := t.ret
      closing := t.closing
      alerts := t.alerts
      lock := t.lock
      outA := t.outA
      outB := t.outB
      model := t.model }

/-- R143, R145, R149 to R151: from `s` to `t` every live purchase has ended with a reason: the END records
stand behind the records of `s`, in the order of the Purchase Table, with the serials that follow, the
tenancy id of the active record of `s` and the room number and building time that stood; an offer position
that was at no record is at the first of them. -/
structure AllEnded (reason : EndReason) (s t : State) : Prop where
  purchases : t.ret.purchases = []
  kept : t.ret.records.take s.ret.records.length = s.ret.records
  posted : (t.ret.records.drop s.ret.records.length).map (fun r => (r.entry, r.purchase, r.film)) =
    s.ret.purchases.map (fun p => (BillingEntry.ended reason p.total, p.number, p.film))
  serials : (t.ret.records.drop s.ret.records.length).map (·.serial) =
    (List.range s.ret.purchases.length).map fun k => nextSerialAfter^[k] s.ret.nextSerial
  nextSerial : t.ret.nextSerial = nextSerialAfter^[s.ret.purchases.length] s.ret.nextSerial
  stamped : ∀ r ∈ t.ret.records.drop s.ret.records.length,
    r.room = t.install.room ∧ r.tenancyId = (s.ret.active.map (·.tenancyId)).getD 0
      ∧ r.day = (s.time.building.map (fun b => b.day.toNat)).getD 0
      ∧ r.second = (s.time.building.map (·.second)).getD 0
      ∧ r.timeUnknown = s.time.building.isNone ∧ r.offered = false
  offer : t.offer = if s.ret.purchases = [] then s.offer else some (s.offer.getD s.ret.nextSerial)

/-- R74, R79 to R83: the key slots before and after a flush, slot by slot. An EMPTY slot stays EMPTY, a
LOADED slot that is kept stays as it was at its index, and a LOADED slot that is not kept becomes EMPTY. -/
def SlotsFlushed (kept : KeySlot → Prop) (before after : List (Option KeySlot)) : Prop :=
  after.length = before.length
  ∧ (∀ i : Nat, before[i]? = some none → after[i]? = some none)
  ∧ ∀ (i : Nat) (k : KeySlot), before[i]? = some (some k) →
    (kept k → after[i]? = some (some k)) ∧ (¬kept k → after[i]? = some none)

/-- R156: with `n` records in the queue of `s`, `k` posts latch BILLING HIGH. -/
def PostsReachBillingHigh (s : State) (n k : Nat) : Prop :=
  s.alerts.sense = .rising ∧ n < s.install.billingHigh ∧ s.install.billingHigh ≤ n + k

/-- R164, R167: a queue before and after admission purges, each taken under an admission that gives every
label what one of `adms` gives it. Every place keeps its unit, or a passed unit's place takes the blank unit
of R164 with its stamp and the admission verdict that refuses it. So a unit that is blank, or that all of
`adms` pass, stays as it was. -/
def QueuePurged (adms : List (Nat → Verdict)) (before after : List QueuedUnit) : Prop :=
  after.length = before.length
  ∧ ∀ (i : Nat) (q : QueuedUnit), before[i]? = some q →
    after[i]? = some q
    ∨ (q.verdict.passes = true ∧ ∃ adm ∈ adms, (adm q.unit.label.toNat).passes = false
      ∧ after[i]? = some
        { unit := { q.unit with phase := .clear, payload := zeros 124 }
          stamp := q.stamp
          verdict := adm q.unit.label.toNat })

/-- R132, R167: an output before and after such purges. Its selection, saved label, viewed flag, unit in
transfer and ready line stand; an output that lost no unit is as it was; one that lost a unit is BLANKED
with its entry-wait flag set, and its last verdict is that of a unit blanked. -/
structure OutputPurged (adms : List (Nat → Verdict)) (before after : Output) : Prop where
  queue : QueuePurged adms before.queue after.queue
  whole : after.queue = before.queue → after = before
  blanked : after.queue ≠ before.queue → ∃ (i : Nat) (q : QueuedUnit),
    after.queue[i]? = some q ∧ before.queue[i]? ≠ some q
    ∧ after = { before with queue := after.queue, entryWait := true, state := .blanked, last := q.verdict }

/-- R163: the verdict of a unit for an output, from its admission, the Descrambler's outcome, and the
output's entry-wait flag once the sequence check has been made. -/
def verdictOf (admission : Verdict) (outcome : Outcome) (entryWait start : Bool) : Verdict :=
  if admission.passes = false then admission
  else if outcome = .noKey then .noKey
  else if entryWait = true ∧ start = false then .entryWait
  else admission

/-- R163 to R165: `after` is the output `before` once the unit `q` has been gated for it with the verdict
`v`; `payload` is what the Descrambler handed on. -/
def GatedWith (q : StampedUnit) (payload : List Byte) (v : Verdict) (before after : Output) : Prop :=
  (before.queue.length < 32 → after =
    { before with
      queue := before.queue ++
        [{ unit := { q.unit with phase := .clear, payload := if v.passes then payload else zeros 124 }
           stamp := q.stamp
           verdict := v }]
      entryWait := !v.passes
      viewed := before.viewed || v.passes
      last := v
      state := if v.passes then .passing else if v = .entryWait then .entryWait else .blanked })
  ∧ (32 ≤ before.queue.length → after =
    { before with entryWait := true, state := .entryWait, last := v })

end Sys2Proof.Machine
end

