-- ==== Sys2Proof/Certificates/Slice0/Obligations.lean ====
section
/-!
DEFINITION. The statements for the provers. Where a statement names `afterFeed s` or `afterLocal s`, that
is the part with the unit taken: the commits that stood due are made first (the model's choice, log 6), and
a take from the feed evaluates the shed state before the unit acts (DEDUCED, log 15). `FeedShedding`,
`ClassifierAlternates` and `CommitMakesTheStageActive` say what taking a unit does. Frames are whole: a next
state written as an update of a state leaves every field it does not name.
-/
open Sys2Proof Sys2Proof.Machine

/-! ### The machine -/

/-- With a command at the front of the queue, a step is that command on the rest. On the empty queue it is
one microsecond of the clock of a live part (the model's choice, log 3): the arrival stamp and the
one-second divider advance, and a ready port may send further bytes of its unit, but not the last (how many
is free, log 8); a port whose line is deasserted holds its place within the unit. A part that is not live
idles. -/
def Obligations.StepRunsTheFrontCommand : Prop :=
  (∀ (c : Instr) (rest : List Instr) (s : State), s.pending = c :: rest →
    step s = exec c { s with pending := rest })
  ∧ (∀ s : State, s.pending = [] → live s = true →
    ∃ (p : Option ReturnUnit) (a b : Option Sending),
      step s = .next
        { s with
          merge := { s.merge with stamp := s.merge.stamp + 1 }
          time := { s.time with divider := s.time.divider + 1 }
          port := { s.port with inProgress := p }
          outA := { s.outA with transfer := a }
          outB := { s.outB with transfer := b }
          model := { s.model with drawn := s.model.drawn + 1 } }
      ∧ (s.port.inProgress = none → p = none)
      ∧ (∀ u, s.port.inProgress = some u → ∃ v, p = some v ∧ v.kind = u.kind
        ∧ SentOnward s.port.ready u.toSending v.toSending)
      ∧ (s.outA.transfer = none → a = none)
      ∧ (∀ x, s.outA.transfer = some x → ∃ y, a = some y ∧ SentOnward s.outA.ready x y)
      ∧ (s.outB.transfer = none → b = none)
      ∧ (∀ x, s.outB.transfer = some x → ∃ y, b = some y ∧ SentOnward s.outB.ready x y))
  ∧ (∀ s : State, s.pending = [] → live s = false → step s = .next s)

/-- Every command completes: none stops. No command writes the queue of waiting commands, and none reads it:
with another queue the next state is the same but for that queue (the model's form, logs 1 and 27). -/
def Obligations.CommandsLeaveTheQueueAlone : Prop :=
  ∀ (c : Instr) (s : State), ∃ t, exec c s = .next t ∧ t.pending = s.pending
    ∧ ∀ queue : List Instr, exec c { s with pending := queue } = .next { t with pending := queue }

/-- The reset state holds the values of a start and of a cold start's retained area, with the installation
read in progress (which start, and how far: the model's choice, log 2), and meets every invariant (the
consumers are prompt there because the model's own schedule is empty, logs 4 and 5). -/
def Obligations.ResetHoldsTheStartValues : Prop :=
  StartValues State.reset
  ∧ State.reset.ret = coldArea
  ∧ State.reset.offer = none
  ∧ State.reset.power.valid = true
  ∧ State.reset.power.phase = .reading
  ∧ State.reset.pending = []
  ∧ WithinCapacity State.reset ∧ ReferencesSelected State.reset ∧ ReservationKept State.reset
  ∧ ConditionsLatched State.reset ∧ LevelsKept State.reset ∧ Prompt State.reset ∧ QueuesAdmitted State.reset
  ∧ SlotsEntitled State.reset ∧ LockedWithoutGuest State.reset ∧ SerialsConsecutive State.reset
  ∧ PurchasesDistinct State.reset

/-! ### Supplies, starts, the installation read -/

/-- POWER_UP brings up both supplies (the standby one by log 11) and it and RESET_RELEASE make a start, warm
or cold by the validity word (held as whether it has its value, log 10). Every block takes its start values;
a warm start clears the offered marks. Of what the spec leaves open the model chooses: the retained area of
a cold start stands until its writes end (log 13); the ready lines stay as sampled (log 7); a second event
still owed is dropped (log 5); a warm start's membership is NONE until its start-up completion (log 30); the
signature register of the read holds the seed from the start on (log 17); a power-up with the line low makes
its start (log 12). Where no start is due (the main supply is already present; the line was not held low)
nothing starts (logs 1 and 12). -/
def Obligations.PowerUpAndReleaseMakeAStart : Prop :=
  ∀ s : State,
    (s.power.mainSupply = false →
      ∃ t, exec .powerUp s = .next t ∧ Started s t
        ∧ t.power =
          { s.power with
            mainSupply := true
            standbySupply := true
            phase := if s.power.valid then .reading else .coldWrites })
    ∧ (s.power.mainSupply = true → exec .powerUp s = .next s)
    ∧ (s.power.mainSupply = true → s.power.resetLow = true →
      ∃ t, exec .resetRelease s = .next t ∧ Started s t
        ∧ t.power =
          { s.power with
            resetLow := false
            phase := if s.power.valid then .reading else .coldWrites })
    ∧ (¬(s.power.mainSupply = true ∧ s.power.resetLow = true) →
      exec .resetRelease s = .next { s with power := { s.power with resetLow := false } })

/-- RESET_HELD_LOW keeps all but the line: the retained area by the spec, the rest of the state by the
model's choice (log 24). A supply loss keeps the retained area while the other supply is present, and loses
it whole where none is; the loss with the other supply absent, a standby level that drops with the main
supply on, and a second loss are the model's choice (log 11), and so is the volatile state that stands after
a loss (log 24). After a loss the validity word no longer holds its value, and the contents are free (log
9). COLD_START_WRITES_END leaves the area clear and valid, all at once (log 13), and the installation read
in progress, its signature register at the seed (until the read's end: log 17); elsewhere it does nothing
(log 1). -/
def Obligations.SuppliesAndTheRetainedArea : Prop :=
  ∀ s : State,
    exec .resetHeldLow s = .next { s with power := { s.power with resetLow := true } }
    ∧ (s.power.standbySupply = true ∨ s.power.mainSupply = false →
      exec .mainSupplyLoss s = .next { s with power := { s.power with mainSupply := false } })
    ∧ (s.power.mainSupply = true → s.power.standbySupply = false →
      ∃ n area, exec .mainSupplyLoss s = .next
        { s with power := { s.power with mainSupply := false, valid := false, losses := n }, ret := area })
    ∧ (s.power.mainSupply = true ∨ s.power.standbySupply = false →
      exec .standbySupplyLoss s = .next { s with power := { s.power with standbySupply := false } })
    ∧ (s.power.mainSupply = false → s.power.standbySupply = true →
      ∃ n area, exec .standbySupplyLoss s = .next
        { s with power := { s.power with standbySupply := false, valid := false, losses := n }, ret := area })
    ∧ (live s = true → s.power.phase = .coldWrites →
      exec .coldStartWritesEnd s = .next
        { s with
          power := { s.power with valid := true, phase := .reading }
          ret := coldArea
          readSig := 0x7FFFFFFF })
    ∧ (live s = false ∨ s.power.phase ≠ .coldWrites → exec .coldStartWritesEnd s = .next s)

/-- While the reset line is held low, every command but the supplies' and the release leaves the whole part
as it stands, and while the main supply is off every command but the supplies' and the reset line's does;
only the levels of the partners' ready lines are seen to change. The spec keeps the retained area and has no
block take an event; that the volatile state stands is the model's choice (log 24), and so is that the ready
lines are sampled all the same (log 7). POWER_UP is in PowerUpAndReleaseMakeAStart, the supplies' losses in
SuppliesAndTheRetainedArea. -/
def Obligations.HeldLowBlocksEveryBlock : Prop :=
  ∀ (c : Instr) (s : State),
    let sampled : Prop := ∃ ret a b, exec c s = .next
      { s with
        port := { s.port with ready := ret }
        outA := { s.outA with ready := a }
        outB := { s.outB with ready := b } }
    (s.power.resetLow = true →
      c ≠ .resetRelease → c ≠ .powerUp → c ≠ .mainSupplyLoss → c ≠ .standbySupplyLoss → sampled)
    ∧ (s.power.mainSupply = false →
      c ≠ .powerUp → c ≠ .mainSupplyLoss → c ≠ .standbySupplyLoss →
      c ≠ .resetHeldLow → c ≠ .resetRelease → sampled)

/-- The end of the installation read puts the record's fields in force, each out-of-range one at its
default, or the defaults with the INSTALLATION FAULT condition; evaluates the shed state against the new
thresholds; ends STARTING; and makes the start-up completion: every live purchase of an OCCUPIED tenancy
ends with POWER, a CLOSING tenancy completes (the lock and the failures count as log 28 reads R106), and the
window membership is evaluated; what the purges of those ends may do to an output is `OutputPurged`, and
what their flushes do to each key slot is `SlotsFlushed`. The
signature register of the read then holds its final value (log 17). Every other field is left as it was. A
byte that the operand does not give reads 0xFF (log 14). Elsewhere nothing happens (log 1). -/
def Obligations.InstallationReadPutsValuesInForce : Prop :=
  ∀ (memory : List Byte) (s : State),
    let bytes : List Byte := (List.range 68).map fun i => memory.getD i 0xFF
    let number (i : Nat) : Nat := (byteAt bytes i).toNat
    let passes : Bool := decide (field bytes 64 4 = (signature (bytes.take 64)).toNat)
    let pairOk : Bool := decide (8 ≤ number 18 ∧ number 18 ≤ 63 ∧ number 19 < number 18)
    let record : Installation :=
      { room := field bytes 0 2
        groups := (List.range 8).map fun k =>
          if field bytes (2 + 2 * k) 2 ≤ 4095 then field bytes (2 + 2 * k) 2 else 0
        shedThr := if pairOk then number 18 else 48
        resumeThr := if pairOk then number 19 else 16
        trailerA := decide (number 20 = 1)
        trailerB := decide (number 21 = 1)
        billingHigh := if 1 ≤ number 22 ∧ number 22 ≤ 31 then number 22 else 24
        fault := false }
    let levels : List Nat := (List.range 15).map fun k =>
      if 1 ≤ number (24 + k) ∧ number (24 + k) ≤ 6 then number (24 + k) else 3
    let begun : State := evalShed
      { s with
        power := { s.power with phase := .running }
        install := if passes then record else defaultRecord true
        readSig := signature (bytes.take 64)
        alerts :=
          if passes then
            { s.alerts with levels := levels, sense := if number 23 = 2 then .falling else .rising }
          else
            { s.alerts.latch .installationFault with levels := List.replicate 15 3, sense := .rising } }
    (live s = true → s.power.phase = .reading →
      ∃ t, exec (.installationReadEnd memory) s = .next t
        ∧ (s.ret.tenancy = .vacant → t = { begun with lock := { begun.lock with membership := .none } })
        ∧ (s.ret.tenancy = .closing → Completed begun t ∧ t.model = begun.model)
        ∧ (s.ret.tenancy = .occupied →
          AllEnded .power s t
          ∧ t.ret = { s.ret with
              purchases := [], records := t.ret.records, nextSerial := t.ret.nextSerial }
          ∧ t.lock = { s.lock with membership := membershipNow t }
          ∧ t.offer = (if s.ret.purchases = [] then s.offer else some (s.offer.getD s.ret.nextSerial))
          ∧ SlotsFlushed
            (fun k => ∀ row, serviceRow s k.label = some row → row.access = .film →
              ∀ p ∈ s.ret.purchases, row.film ≠ p.film)
            s.keys.slots t.keys.slots
          ∧ (∀ o, OutputPurged [admissionOf begun, admissionOf t] (output begun o) (output t o))
          ∧ (s.ret.purchases = [] → t.outA = begun.outA ∧ t.outB = begun.outB ∧ t.alerts = begun.alerts)
          ∧ (s.ret.purchases ≠ [] → PassedAdmitted t t.outA ∧ PassedAdmitted t t.outB)
          ∧ (∀ src, t.alerts.isLatched src = true ↔ begun.alerts.isLatched src = true
            ∨ (src = .purchaseEnded ∧ s.ret.purchases ≠ [])
            ∨ (src = .billingHigh
              ∧ PostsReachBillingHigh begun s.ret.records.length s.ret.purchases.length))
          ∧ t = { begun with
              ret := t.ret
              lock := t.lock
              offer := t.offer
              keys := { s.keys with slots := t.keys.slots }
              outA := t.outA
              outB := t.outB
              alerts := { begun.alerts with latched := t.alerts.latched } }))
    ∧ (live s = false ∨ s.power.phase ≠ .reading → exec (.installationReadEnd memory) s = .next s)

/-! ### The two inputs and the Classifier -/

/-- A complete building-feed unit is stamped and enters the FIFO, where the shed state is evaluated, or is
dropped at a full one with FEED OVERFLOW; the bytes after the 128th are ignored. Bytes that are no
complete unit, and a discard, leave only the state of the interface (the granularity is the model's,
log 20). -/
def Obligations.FeedUnitEntersOrIsDropped : Prop :=
  (∀ (bytes : List Byte) (s : State), live s = true →
    (bytes.head? = some 0xB5 → 128 ≤ bytes.length →
      (s.merge.feed.length < 64 → exec (.feedUnitArrival bytes) s = .next (evalShed
        { s with
          merge := { s.merge with
            feedIf := .awaiting
            feed := s.merge.feed ++ [{ unit := unitOfBytes (bytes.take 128), stamp := s.merge.stamp }] } }))
      ∧ (64 ≤ s.merge.feed.length → exec (.feedUnitArrival bytes) s = .next
        { s with
          merge := { s.merge with feedIf := .awaiting }
          alerts := s.alerts.latch .feedOverflow }))
    ∧ (bytes.head? = some 0xB5 → bytes.length < 128 → exec (.feedUnitArrival bytes) s = .next
        { s with merge := { s.merge with feedIf := .receiving } })
    ∧ (∀ first rest, bytes = first :: rest → first ≠ 0xB5 → exec (.feedUnitArrival bytes) s = .next
        { s with merge := { s.merge with feedIf := .awaiting } })
    ∧ (bytes = [] → exec (.feedUnitArrival bytes) s = .next s))
  ∧ (∀ (b : Byte) (s : State), live s = true →
    exec (.feedInterfaceDiscard (.badSync b)) s = .next
      { s with merge := { s.merge with feedIf := if b = 0xB5 then .receiving else .awaiting } }
    ∧ exec (.feedInterfaceDiscard (.cutShort b)) s = .next
      { s with merge := { s.merge with feedIf := if b = 0xB5 then .receiving else .awaiting } })

/-- The evaluation of the shed state: NORMAL becomes SHEDDING at or above the shed threshold and INSET SHED
latches; SHEDDING becomes NORMAL at or below the resume threshold, and the shed-ended event removes the
references of the labels selected on B alone and sets B's entry-wait flag; otherwise the state is kept.
And what taking a unit from the feed does: the head leaves, the preference moves away, and the shed state
is evaluated (log 15). -/
def Obligations.FeedShedding : Prop :=
  (∀ s : State,
    (s.merge.shed = .normal → s.install.shedThr ≤ s.merge.feed.length → evalShed s =
      { s with merge := { s.merge with shed := .shedding }, alerts := s.alerts.latch .insetShed })
    ∧ (s.merge.shed = .normal → s.merge.feed.length < s.install.shedThr → evalShed s = s)
    ∧ (s.merge.shed = .shedding → s.install.resumeThr < s.merge.feed.length → evalShed s = s)
    ∧ (s.merge.shed = .shedding → s.merge.feed.length ≤ s.install.resumeThr → evalShed s =
      { s with
        merge := { s.merge with
          shed := .normal
          refs := s.merge.refs.filter fun r =>
            !(decide (r.label = s.outB.selected) && decide (r.label ≠ s.outA.selected)) }
        outB := { s.outB with entryWait := true } }))
  ∧ (∀ s : State, tookFeed s =
      evalShed { s with merge := { s.merge with feed := s.merge.feed.tail, pref := .localInsert } })

/-- Outside STARTING, a live part's Classifier takes the oldest unit of one input: of the two eligible
inputs the one that its preference names, of one eligible input that one, of none none; it never takes
from both. The Local Insert FIFO is held while the Result Queue holds 8 results. After a unit the
preference moves to the other input. In STARTING, held low or unpowered it takes none. A row of the
Classifier acts only where the unit that it takes next is one of the row's; where it takes another, or
none, the command leaves the part as it is (the model's choice, log 1). -/
def Obligations.ClassifierAlternates : Prop :=
  (∀ s : State,
    let localReady : Prop := s.merge.localQ ≠ [] ∧ s.results.length < 8
    (running s = true ↔
      s.power.mainSupply = true ∧ s.power.resetLow = false ∧ s.power.phase = .running)
    ∧ (running s = true →
      (∀ q, s.merge.feed.head? = some q → (¬localReady ∨ s.merge.pref = .feed) →
        feedHead s = some q ∧ localHead s = none)
      ∧ (∀ q, s.merge.localQ.head? = some q → s.results.length < 8 →
        (s.merge.feed = [] ∨ s.merge.pref = .localInsert) → localHead s = some q ∧ feedHead s = none)
      ∧ (s.merge.feed = [] → ¬localReady → feedHead s = none ∧ localHead s = none))
    ∧ (running s = false → feedHead s = none ∧ localHead s = none)
    ∧ (tookFeed s).merge.pref = .localInsert
    ∧ tookLocal s =
      { s with merge := { s.merge with localQ := s.merge.localQ.tail, pref := .feed } })
  ∧ (∀ (c : Instr) (row : FeedRow) (s : State),
    (c, row) ∈
      [(.mediaUnit, .media), (.discardedFeedUnit, .discarded), (.timeMark, .timeMark), (.keyUnit, .keyUnit),
       (.directiveIgnored, .ignored), (.tableOpen, .tableOpen), (.tableRows, .tableRows),
       (.tableClose, .tableClose), (.roomRecord, .roomRecord), (.tenancyChange, .tenancyChange),
       (.lockReset, .lockReset), (.purchaseVoid, .purchaseVoid), (.billingReceipt, .billingReceipt),
       (.billingPoll, .billingPoll), (.emergencyOn, .emergencyOn), (.emergencyOff, .emergencyOff)] →
    (∀ q, ¬FeedTakes s row q) → exec c s = .next s)
  ∧ (∀ (c : Instr) (row : LocalRow) (s : State),
    (c, row) ∈
      [(.refusedUnit, .refused), (.unknownCommand, .unknown), (.select, .command .select),
       (.purchase, .command .purchase), (.pinEntry, .command .pinEntry), (.relock, .command .relock),
       (.query, .command .query), (.alertSetup, .command .alertSetup),
       (.alertClear, .command .alertClear)] →
    (∀ q, ¬LocalTakes s row q) → exec c s = .next s)

/-- A unit taken from the feed is routed by its header fault, its label, and for a directive its kind code
and addressing; an EMERGENCY by its mode, one without a meaning to EMERGENCY_ON (the model's choice,
log 18). A discarded unit and an ignored directive have no effect but that of being taken (logs 6 and
15). -/
def Obligations.FeedUnitsAreRouted : Prop :=
  (∀ (ins : Installation) (u : CarriageUnit),
    let n := u.label.toNat
    let code := (byteAt u.payload 0).toNat
    let target := field u.payload 2 2
    let addressed : Prop :=
      byteAt u.payload 1 = 1
      ∨ (byteAt u.payload 1 = 2 ∧ 1 ≤ target ∧ target ≤ 4095 ∧ target ∈ ins.groups)
      ∨ (byteAt u.payload 1 = 3 ∧ ins.room ≠ 0 ∧ target = ins.room)
    (u.phase = .noMeaning → feedRow ins u = .discarded)
    ∧ (n = 4080 ∨ n = 4088 ∨ n = 4095 → u.phase ≠ .clear → feedRow ins u = .discarded)
    ∧ (u.phase ≠ .noMeaning → 1 ≤ n → n ≤ 4079 → feedRow ins u = .media)
    ∧ (n = 0 ∨ (4081 ≤ n ∧ n ≤ 4087) ∨ (4089 ≤ n ∧ n ≤ 4094) → feedRow ins u = .discarded)
    ∧ (u.phase = .clear → n = 4080 → feedRow ins u = .timeMark)
    ∧ (u.phase = .clear → n = 4088 → feedRow ins u = .keyUnit)
    ∧ (u.phase = .clear → n = 4095 → code = 0 ∨ 10 < code → feedRow ins u = .ignored)
    ∧ (u.phase = .clear → n = 4095 → ¬addressed → feedRow ins u = .ignored)
    ∧ (u.phase = .clear → n = 4095 → addressed →
      (code = 1 → feedRow ins u = .tableOpen)
      ∧ (code = 2 → feedRow ins u = .tableRows)
      ∧ (code = 3 → feedRow ins u = .tableClose)
      ∧ (code = 4 → feedRow ins u = .roomRecord)
      ∧ (code = 5 → feedRow ins u = .tenancyChange)
      ∧ (code = 6 → feedRow ins u = .lockReset)
      ∧ (code = 7 → feedRow ins u = .purchaseVoid)
      ∧ (code = 8 → feedRow ins u = .billingReceipt)
      ∧ (code = 9 → feedRow ins u = .billingPoll)
      ∧ (code = 10 → byteAt u.payload 8 ≠ 2 → feedRow ins u = .emergencyOn)
      ∧ (code = 10 → byteAt u.payload 8 = 2 → feedRow ins u = .emergencyOff)))
  ∧ (∀ (s : State) (q : StampedUnit), FeedTakes s .discarded q →
    exec .discardedFeedUnit s = .next (afterFeed s))
  ∧ (∀ (s : State) (q : StampedUnit), FeedTakes s .ignored q →
    exec .directiveIgnored s = .next (afterFeed s))

/-- A byte is taken only while the ready line is asserted: a first byte other than 0xB5 is discarded, 0xB5
begins an assembly, later bytes join it, and the 128th completes a unit that is stamped and enters the
Local Insert FIFO. -/
def Obligations.LocalInsertAssemblesUnits : Prop :=
  ∀ (b : Byte) (s : State),
    (insertReady s = true ↔ s.power.mainSupply = true ∧ s.power.resetLow = false
      ∧ s.power.phase = .running ∧ s.merge.localQ.length < 8)
    ∧ (insertReady s = false → exec (.localInsertByte b) s = .next s)
    ∧ (insertReady s = true → s.merge.asm = [] → b ≠ 0xB5 → exec (.localInsertByte b) s = .next s)
    ∧ (insertReady s = true → s.merge.asm = [] → b = 0xB5 → exec (.localInsertByte b) s = .next
      { s with merge := { s.merge with asm := [b] } })
    ∧ (insertReady s = true → s.merge.asm ≠ [] → s.merge.asm.length < 127 →
      exec (.localInsertByte b) s = .next { s with merge := { s.merge with asm := s.merge.asm ++ [b] } })
    ∧ (insertReady s = true → 127 ≤ s.merge.asm.length → exec (.localInsertByte b) s = .next
      { s with
        merge := { s.merge with
          asm := []
          localQ := s.merge.localQ ++
            [{ unit := unitOfBytes (s.merge.asm ++ [b]), stamp := s.merge.stamp }] } })

/-- Every directive of a known kind addressed to this part whose form is faulty is ignored whole, with
DIRECTIVE FAULT latched (the unit taken, logs 6 and 15); and so is a malformed time mark. The reader of each
kind gives operands for exactly the payloads whose header and body pass the checks of the kind, and then the
fields of the body; every other payload is the form fault. -/
def Obligations.FormFaultsAreIgnoredWhole : Prop :=
  (∀ (s : State) (q : StampedUnit),
    let faulted : Host.Outcome State Fault Refusal :=
      .next { afterFeed s with alerts := (afterFeed s).alerts.latch .directiveFault }
    (FeedTakes s .tableOpen q → readTableOpen q.unit.payload = none → exec .tableOpen s = faulted)
    ∧ (FeedTakes s .tableRows q → readTableRows q.unit.payload = none → exec .tableRows s = faulted)
    ∧ (FeedTakes s .tableClose q → readTableClose q.unit.payload = none → exec .tableClose s = faulted)
    ∧ (FeedTakes s .roomRecord q → readRoomRecord q.unit.payload = none → exec .roomRecord s = faulted)
    ∧ (FeedTakes s .tenancyChange q → readNoBody q.unit.payload = none → exec .tenancyChange s = faulted)
    ∧ (FeedTakes s .lockReset q → readNoBody q.unit.payload = none → exec .lockReset s = faulted)
    ∧ (FeedTakes s .purchaseVoid q → readNumber q.unit.payload = none → exec .purchaseVoid s = faulted)
    ∧ (FeedTakes s .billingReceipt q → readNumber q.unit.payload = none →
      exec .billingReceipt s = faulted)
    ∧ (FeedTakes s .billingPoll q → readNumber q.unit.payload = none → exec .billingPoll s = faulted)
    ∧ (FeedTakes s .emergencyOn q → readEmergencyOn q.unit.payload = none → exec .emergencyOn s = faulted)
    ∧ (FeedTakes s .emergencyOff q → readEmergencyOff q.unit.payload = none →
      exec .emergencyOff s = faulted)
    ∧ (FeedTakes s .timeMark q →
      (86399 < field q.unit.payload 2 4 ∨ byteAt q.unit.payload 6 ≠ 0 ∨ byteAt q.unit.payload 7 ≠ 0) →
      exec .timeMark s = faulted))
  ∧ (∀ payload : List Byte,
    let number (i : Nat) : Nat := (byteAt payload i).toNat
    let body (i n : Nat) : Nat := field payload (8 + i) n
    let header (length : Nat) : Prop :=
      number 4 = length ∧ number 5 = 0 ∧ number 6 = 0 ∧ number 7 = 0
      ∧ (number 1 = 1 → field payload 2 2 = 0)
    let names (t : Table) : Prop := number 8 = if t = .service then 1 else 2
    (∀ t g, readTableOpen payload = some (t, g) ↔
      header 4 ∧ names t ∧ number 9 = 0 ∧ g = body 2 2 ∧ g ≠ 0)
    ∧ (∀ x, readTableRows payload = some x ↔
      let size := if x.table = .service then 16 else 12
      let count := number 12
      header (6 + size * count) ∧ names x.table ∧ x.first = number 9 ∧ x.generation = body 2 2
      ∧ x.generation ≠ 0 ∧ number 13 = 0
      ∧ 1 ≤ count ∧ count ≤ (if x.table = .service then 6 else 9)
      ∧ x.first + count ≤ (if x.table = .service then 256 else 32)
      ∧ x.rows = (List.range count).map fun i => (payload.drop (14 + size * i)).take size)
    ∧ (∀ x, readTableClose payload = some x ↔
      header 16 ∧ names x.table ∧ x.generation = body 2 2 ∧ x.generation ≠ 0
      ∧ x.expected = body 4 4 ∧ x.expected < 2 ^ 31 ∧ number 22 = 0 ∧ number 23 = 0
      ∧ ((number 9 = 1 ∧ body 10 4 ≤ 86399
          ∧ x.activation = some { day := BitVec.ofNat 16 (body 8 2), second := body 10 4 })
        ∨ (number 9 = 0 ∧ body 8 2 = 0 ∧ body 10 4 = 0 ∧ x.activation = none)))
    ∧ (∀ (active : Bool) (r : RoomRecord), readRoomRecord payload = some (active, r) ↔
      header 36 ∧ number 8 = (if active then 1 else 2) ∧ number 9 = 0 ∧ number 42 = 0 ∧ number 43 = 0
      ∧ r.tenancyId = body 2 2 ∧ r.tenancyId ≠ 0 ∧ r.packages = BitVec.ofNat 32 (body 4 4)
      ∧ number 16 = (match r.lockMode with
          | .off => 1
          | .pin => 2
          | .barred => 3)
      ∧ r.threshold = number 17 ∧ 1 ≤ r.threshold ∧ r.threshold ≤ 7
      ∧ ((number 18 = 1 ∧ number 19 ≤ 9 ∧ number 20 ≤ 9 ∧ number 21 ≤ 9 ∧ number 22 ≤ 9
          ∧ r.pin = some { d1 := number 19, d2 := number 20, d3 := number 21, d4 := number 22 })
        ∨ (number 18 = 0 ∧ (∀ i, i < 4 → number (19 + i) = 0) ∧ r.pin = none))
      ∧ r.session = body 16 2 ∧ 60 ≤ r.session ∧ r.session ≤ 28800
      ∧ ((number 23 = 1 ∧ body 18 4 ≤ 86399 ∧ body 22 4 ≤ 86399 ∧ body 18 4 ≠ body 22 4
          ∧ r.window = some { opens := body 18 4, closes := body 22 4 })
        ∨ (number 23 = 0 ∧ (∀ i, i < 8 → number (26 + i) = 0) ∧ r.window = none))
      ∧ r.spendLimit = body 26 4 ∧ r.spendLimit ≤ 999999
      ∧ r.billingDayStart = body 30 4 ∧ r.billingDayStart ≤ 86399)
    ∧ (readNoBody payload = some () ↔ header 0)
    ∧ (∀ k, readNumber payload = some k ↔
      header 4 ∧ number 10 = 0 ∧ number 11 = 0 ∧ k = body 0 2 ∧ k ≠ 0)
    ∧ (∀ label, readEmergencyOn payload = some label ↔
      header 4 ∧ number 8 = 1 ∧ number 9 = 0 ∧ label = body 2 2 ∧ 1 ≤ label ∧ label ≤ 4079)
    ∧ (readEmergencyOff payload = some () ↔
      header 4 ∧ number 8 = 2 ∧ number 9 = 0 ∧ body 2 2 = 0))

/-- A local unit is routed by its header fault, its label and its kind code; each unit taken is answered by
one result, which joins the tail of the Result Queue with the tag and kind of the unit, and whose body is
empty unless the code is DONE. A refused unit is answered BAD FORM with tag 0 and kind 0, an unknown kind
and a frame fault BAD FORM, and none of these has another effect but the taking (log 6). QUERY answers DONE
with its view and changes nothing else. The fields of the nine views stand in their order, widths and codes
(the record's fields in CLOSING are those of the active slot, log 19; the seconds remaining are 0 while the
Lock Unit still owes the second event that reached its expiry, log 5). The reader of each command gives
operands for exactly the payloads without a frame fault. -/
def Obligations.LocalUnitsAreAnswered : Prop :=
  (∀ u : CarriageUnit,
    let code := (byteAt u.payload 0).toNat
    (u.phase = .noMeaning ∨ u.label.toNat ≠ 4094 ∨ u.phase ≠ .clear → localRow u = .refused)
    ∧ (u.label.toNat = 4094 → u.phase = .clear →
      (code = 0 ∨ 7 < code → localRow u = .unknown)
      ∧ (code = 1 → localRow u = .command .select)
      ∧ (code = 2 → localRow u = .command .purchase)
      ∧ (code = 3 → localRow u = .command .pinEntry)
      ∧ (code = 4 → localRow u = .command .relock)
      ∧ (code = 5 → localRow u = .command .query)
      ∧ (code = 6 → localRow u = .command .alertSetup)
      ∧ (code = 7 → localRow u = .command .alertClear)))
  ∧ (∀ (c : Instr) (row : LocalRow) (s : State) (q : StampedUnit),
    (c, row) ∈
      [(.refusedUnit, .refused), (.unknownCommand, .unknown), (.select, .command .select),
       (.purchase, .command .purchase), (.pinEntry, .command .pinEntry), (.relock, .command .relock),
       (.query, .command .query), (.alertSetup, .command .alertSetup),
       (.alertClear, .command .alertClear)] →
    LocalTakes s row q → ∃ t r, exec c s = .next t ∧ t.results = s.results ++ [r]
      ∧ (row ≠ .refused → r.tag = byteAt q.unit.payload 1 ∧ r.kind = byteAt q.unit.payload 0)
      ∧ (r.code ≠ .done → r.body = []))
  ∧ (∀ (s : State) (q : StampedUnit),
    let badForm : Host.Outcome State Fault Refusal := .next (answered q .badForm [] (afterLocal s))
    (LocalTakes s .refused q → exec .refusedUnit s = .next
      { afterLocal s with
        results := s.results ++ [{ tag := 0, kind := 0, code := .badForm, body := [] }] })
    ∧ (LocalTakes s .unknown q → exec .unknownCommand s = badForm)
    ∧ (LocalTakes s (.command .select) q → readSelect q.unit.payload = none → exec .select s = badForm)
    ∧ (LocalTakes s (.command .purchase) q → readPurchase q.unit.payload = none →
      exec .purchase s = badForm)
    ∧ (LocalTakes s (.command .pinEntry) q → readPinEntry q.unit.payload = none →
      exec .pinEntry s = badForm)
    ∧ (LocalTakes s (.command .relock) q → readRelock q.unit.payload = none → exec .relock s = badForm)
    ∧ (LocalTakes s (.command .query) q → readQuery q.unit.payload = none → exec .query s = badForm)
    ∧ (LocalTakes s (.command .alertSetup) q → readAlertSetup q.unit.payload = none →
      exec .alertSetup s = badForm)
    ∧ (LocalTakes s (.command .alertClear) q → readAlertClear q.unit.payload = none →
      exec .alertClear s = badForm)
    ∧ (∀ v, LocalTakes s (.command .query) q → readQuery q.unit.payload = some v →
      exec .query s = .next (answered q .done (viewBody (afterLocal s) v) (afterLocal s))))
  ∧ (∀ payload : List Byte,
    let number (i : Nat) : Nat := (byteAt payload i).toNat
    let header (length : Nat) : Prop := number 2 = length ∧ number 3 = 0
    (∀ o label, readSelect payload = some (o, label) ↔
      header 4 ∧ number 4 = (if o = .a then 1 else 2) ∧ number 5 = 0 ∧ label = field payload 6 2)
    ∧ (∀ label, readPurchase payload = some label ↔
      header 4 ∧ number 6 = 0 ∧ number 7 = 0 ∧ label = field payload 4 2)
    ∧ (∀ pin, readPinEntry payload = some pin ↔
      header 4 ∧ pin = { d1 := number 4, d2 := number 5, d3 := number 6, d4 := number 7 }
      ∧ pin.d1 ≤ 9 ∧ pin.d2 ≤ 9 ∧ pin.d3 ≤ 9 ∧ pin.d4 ≤ 9)
    ∧ (readRelock payload = some () ↔ header 0)
    ∧ (∀ v, readQuery payload = some v ↔
      header 4 ∧ number 5 = 0 ∧ number 6 = 0 ∧ number 7 = 0 ∧ number 4 ≠ 0
      ∧ [View.outputs, .purchases, .lock, .clock, .tables, .keys, .billing, .fifos, .alerts][number 4 - 1]?
          = some v)
    ∧ (∀ x, readAlertSetup payload = some x ↔
      header 20 ∧ x.mask = number 4 ∧ x.mask ≤ 7 ∧ number 5 = (if x.sense = .rising then 1 else 2)
      ∧ x.levels = ((List.range 15).map fun k => number (6 + k))
      ∧ (∀ n ∈ x.levels, 1 ≤ n ∧ n ≤ 6) ∧ number 21 = 0 ∧ number 22 = 0 ∧ number 23 = 0)
    ∧ (∀ named, readAlertClear payload = some named ↔
      header 4 ∧ field payload 4 4 < 65536 ∧ named = BitVec.ofNat 16 (field payload 4 4)))
  ∧ (∀ s : State,
    let flag (b : Bool) : Nat := if b then 1 else 0
    let shownOn (out : Output) : List (Nat × Nat) :=
      [(2, out.selected), (2, out.saved), (1, out.state.code),
       (1, flag out.entryWait + 2 * flag out.viewed), (1, out.last.code.toNat), (1, out.queue.length)]
    let bought (p : Purchase) : List (Nat × Nat) :=
      match p.state with
      | .grace needed seen lapse =>
        [(1, p.number), (1, 1), (2, p.film), (2, seen), (2, needed), (2, lapse), (4, p.total)]
      | .running position repetition remaining =>
        [(1, p.number), (1, 2), (2, p.film), (1, position), (1, repetition), (4, remaining), (4, p.total)]
    let window := s.ret.active.bind (·.window)
    let tableFields (m : TableMachine) : List (Nat × Nat) :=
      let generation := match m.stage with
        | .idle => 0
        | .filling g _ => g
        | .checking g _ _ _ => g
        | .waiting g _ _ => g
      let due := match m.stage with
        | .waiting _ _ b => some b
        | .idle => none
        | .filling _ _ => none
        | .checking _ _ _ _ => none
      [(2, m.activeGen), (1, m.stage.code), (2, generation), (1, flag due.isSome),
       (2, (due.map (·.day.toNat)).getD 0), (4, (due.map (·.second)).getD 0),
       (1, flag m.lastSig.isSome), (4, (m.lastSig.map (·.toNat)).getD 0)]
    let slotFields (slot : Option KeySlot) : List (Nat × Nat) :=
      match slot with
      | none => [(1, 0), (2, 0), (2, 0)]
      | some k =>
        [(1, 1 + 2 * flag k.house + 4 * flag k.wordA.isSome + 8 * flag k.wordB.isSome + 16 * flag k.used),
         (2, k.label), (2, k.order.toNat % 65536)]
    viewBody s .outputs = fieldBytes
      (shownOn s.outA ++ shownOn s.outB ++ [(1, flag s.emergency.isSome), (2, s.emergency.getD 0)])
    ∧ (∃ ordered : List Purchase,
      ordered.Perm s.ret.purchases ∧ ordered.Pairwise (fun p p' => p.number ≤ p'.number)
      ∧ viewBody s .purchases = fieldBytes
        ([(1, s.ret.purchases.length + 128 * flag s.ret.active.isSome), (1, s.ret.nextPurchase),
          (3, s.ret.spentToday), (3, (s.ret.active.map (·.spendLimit)).getD 0)]
          ++ ordered.flatMap bought))
    ∧ viewBody s .lock = fieldBytes
      [(2, s.install.room), (1, s.ret.tenancy.code), (2, (s.ret.active.map (·.tenancyId)).getD 0),
       (1, flag s.ret.active.isSome + 2 * flag s.ret.waiting.isSome + 4 * flag s.ret.incoming.isSome),
       (1, (s.ret.active.map (·.lockMode.code)).getD 0), (1, (s.ret.active.map (·.threshold)).getD 0),
       (1, flag (s.ret.active.bind (·.pin)).isSome), (1, flag window.isSome),
       (4, (window.map (·.opens)).getD 0), (4, (window.map (·.closes)).getD 0),
       (1, s.lock.state.code), (1, s.ret.failures),
       (4, match s.lock.state with
          | .locked => 0
          | .unlocked e => (e - s.time.mono).toNat
          | .lockout e => (e - s.time.mono).toNat)]
    ∧ viewBody s .clock = fieldBytes
      [(4, s.time.mono.toNat), (1, if s.time.building.isSome then 2 else 1),
       (2, (s.time.building.map (·.day.toNat)).getD 0), (4, (s.time.building.map (·.second)).getD 0),
       (1, flag s.ret.billingDay.isSome), (2, (s.ret.billingDay.map (·.toNat)).getD 0)]
    ∧ viewBody s .tables = fieldBytes (tableFields s.svc ++ tableFields s.tar)
    ∧ viewBody s .keys = fieldBytes (s.keys.slots.flatMap slotFields)
    ∧ viewBody s .billing = fieldBytes
      [(1, s.ret.records.length), (1, flag (!s.ret.records.isEmpty) + 2 * flag s.offer.isSome),
       (2, (s.ret.records.head?.map (·.serial)).getD 0), (2, (s.ret.records.getLast?.map (·.serial)).getD 0),
       (2, s.offer.getD 0), (2, s.ret.nextSerial), (1, s.install.billingHigh), (1, s.alerts.sense.code)]
    ∧ viewBody s .fifos = fieldBytes
      [(1, s.merge.feed.length), (1, s.merge.localQ.length), (1, s.merge.shed.code),
       (1, s.install.shedThr), (1, s.install.resumeThr), (1, s.results.length)]
    ∧ viewBody s .alerts = fieldBytes
      ([(4, s.alerts.latched.toNat), (4, (conditionSet s).toNat)]
        ++ AlertSource.all.map (fun src => (1, s.alerts.level src))
        ++ [(1, s.alerts.sense.code), (1, s.alerts.mask), (1, flag (alertLine s))])
    ∧ (∀ src : AlertSource, (conditionSet s).getLsbD src.code = conditionHolds s src))
  ∧ [OutputState.idle, .waiting, .passing, .entryWait, .blanked].map (·.code) = [1, 2, 3, 4, 5]
  ∧ [Verdict.none, .pass, .passOverride, .noService, .notEntitled, .notPurchased, .locked, .barred,
      .outOfWindow, .noKey, .entryWait].map (·.code.toNat) = List.range 11
  ∧ [Tenancy.vacant, .occupied, .closing].map (·.code) = [1, 2, 3]
  ∧ [LockMode.off, .pin, .barred].map (·.code) = [1, 2, 3]
  ∧ (∀ e, LockState.locked.code = 1 ∧ (LockState.unlocked e).code = 2 ∧ (LockState.lockout e).code = 3)
  ∧ (∀ g rows x a b, Stage.idle.code = 1 ∧ (Stage.filling g rows).code = 2
    ∧ (Stage.checking g rows x a).code = 3 ∧ (Stage.waiting g rows b).code = 4)
  ∧ [Sense.rising, .falling].map (·.code) = [1, 2] ∧ [ShedState.normal, .shedding].map (·.code) = [1, 2]
  ∧ AlertSource.all = [.feedOverflow, .insetShed, .feedGap, .outputOverrun, .keyTableFull, .tableRejected,
      .tableCommitted, .directiveFault, .tenancyChanged, .lockout, .sessionEnded, .purchaseEnded,
      .billingHigh, .timeUnset, .installationFault, .emergency]
  ∧ AlertSource.all.map (·.code) = List.range 16

/-! ### The media path -/

/-- A media unit whose label has no row, or is selected on no output, or is selected on B alone while the
part sheds, or that repeats the sequence of its reference, is discarded: taking it is its only effect. The
shed state read is that of the evaluation that the take itself makes (DEDUCED, log 15: unsafe for the unit
whose take ends shedding), and a commit that stood due is then made (the model's choice, log 6). -/
def Obligations.MediaUnitDiscarded : Prop :=
  ∀ (s : State) (q : StampedUnit), FeedTakes s .media q →
    let t := tookFeed s
    let n := q.unit.label.toNat
    (serviceRow t n = none
      ∨ (t.outA.selected ≠ n ∧ t.outB.selected ≠ n)
      ∨ (t.merge.shed = .shedding ∧ t.outB.selected = n ∧ t.outA.selected ≠ n)
      ∨ referenceOf t.merge.refs n = some q.unit.sequence) →
    exec .mediaUnit s = .next (commitsDue t)

/-- A media unit that no step discards is handed on: its reference takes its sequence, a gap latches FEED
GAP and sets the entry-wait flag of each output that selects it, the Descrambler gives its outcome and
marks the slot used, its keystream register holding what a descrambled unit leaves in it (log 17), and the
gate places it, passed or blank, in the queue of each output that selects it or drops it at a full one with
OUTPUT OVERRUN. An output that does not select it, and every other field of
the part, is left as it is. The shed state read is that of the evaluation that the take itself makes
(DEDUCED, log 15: unsafe for the unit whose take ends shedding), and a commit that stood due is made when
the gate has finished (the model's choice, log 6). -/
def Obligations.MediaUnitGated : Prop :=
  ∀ (s : State) (q : StampedUnit), FeedTakes s .media q →
    let t := tookFeed s
    let n := q.unit.label.toNat
    let made := descramble t.keys q.unit
    serviceRow t n ≠ none → (t.outA.selected = n ∨ t.outB.selected = n) →
    ¬(t.merge.shed = .shedding ∧ t.outB.selected = n ∧ t.outA.selected ≠ n) →
    referenceOf t.merge.refs n ≠ some q.unit.sequence →
    ∃ (gap : Bool) (u : State), exec .mediaUnit s = .next (commitsDue u)
      ∧ (gap = true ↔ ∃ r, referenceOf t.merge.refs n = some r ∧ q.unit.sequence ≠ r + 1)
      ∧ u.merge = { t.merge with refs := u.merge.refs }
      ∧ referenceOf u.merge.refs n = some q.unit.sequence
      ∧ (∀ m, m ≠ n → referenceOf u.merge.refs m = referenceOf t.merge.refs m)
      ∧ (t.outA.selected ≠ n → u.outA = t.outA)
      ∧ (t.outA.selected = n → GatedWith q made.2.1
          (verdictOf (admissionOf t n) made.1 (t.outA.entryWait || gap) q.unit.start)
          { t.outA with entryWait := t.outA.entryWait || gap } u.outA)
      ∧ (t.outB.selected ≠ n → u.outB = t.outB)
      ∧ (t.outB.selected = n → GatedWith q made.2.1
          (verdictOf (admissionOf t n) made.1 (t.outB.entryWait || gap) q.unit.start)
          { t.outB with entryWait := t.outB.entryWait || gap } u.outB)
      ∧ u.keys =
          { slots :=
              if made.1 = .descrambled then
                t.keys.slots.map fun slot => slot.map fun k =>
                  if k.label = n then { k with used := true } else k
              else t.keys.slots
            loads := t.keys.loads
            keystream := if made.1 = .descrambled then made.2.2 else t.keys.keystream }
      ∧ u.alerts = (t.alerts.latchIf gap .feedGap).latchIf
          ((decide (t.outA.selected = n) && decide (32 ≤ t.outA.queue.length))
            || (decide (t.outB.selected = n) && decide (32 ≤ t.outB.queue.length))) .outputOverrun
      ∧ u = { t with
          merge := u.merge
          keys := u.keys
          outA := u.outA
          outB := u.outB
          alerts := u.alerts }

/-- The Descrambler's outcome: CLEAR for a clear unit; NO KEY where no slot carries the label or its slot
holds no word for the unit's phase; otherwise DESCRAMBLED with that word. The seed is the low 31 bits of
H XOR L XOR T, all ones where they are 0. A payload byte is the received one XOR the low eight bits of the
register after that byte's eight steps, which hold the new bits, the first most significant; the register
stands where no byte is descrambled and after the last one (the model's choice, log 17). The same
computation undoes itself, so it scrambles too. -/
def Obligations.DescramblingUndoesItself : Prop :=
  (∀ (keys : KeyTable) (u : CarriageUnit),
    let n := u.label.toNat
    let noKey : Prop := descramble keys u = (.noKey, u.payload, keys.keystream)
    (u.phase = .clear → descramble keys u = (.clear, u.payload, keys.keystream))
    ∧ (u.phase ≠ .clear → (∀ k, some k ∈ keys.slots → k.label ≠ n) → noKey)
    ∧ (∀ (i : Nat) (k : KeySlot), keys.slots[i]? = some (some k) → k.label = n →
      (∀ j k', j < i → keys.slots[j]? = some (some k') → k'.label ≠ n) →
      let word := if u.phase = .phaseA then k.wordA else if u.phase = .phaseB then k.wordB else none
      (u.phase ≠ .clear → word = none → noKey)
      ∧ (∀ w, u.phase ≠ .clear → word = some w →
        descramble keys u = (.descrambled, descrambleBytes (keystreamSeed w u.label u.sequence) u.payload))))
  ∧ (∀ (w : BitVec 64) (label : BitVec 12) (sequence : BitVec 4),
    let seed := (w.toNat / 2 ^ 32 ^^^ w.toNat % 2 ^ 32 ^^^ (label.toNat * 16 + sequence.toNat)) % 2 ^ 31
    (keystreamSeed w label sequence).toNat = if seed = 0 then 0x7FFFFFFF else seed)
  ∧ (∀ r : Register31, descrambleBytes r [] = ([], r))
  ∧ (∀ (r : Register31) (b : Byte) (rest : List Byte),
    let next := keystreamByte r
    descrambleBytes r (b :: rest) =
      ((b ^^^ next.extractLsb' 0 8) :: (descrambleBytes next rest).1, (descrambleBytes next rest).2))
  ∧ (∀ (r : Register31) (payload : List Byte),
    (descrambleBytes r payload).1.length = payload.length
    ∧ (descrambleBytes r (descrambleBytes r payload).1).1 = payload)

/-- The signature register: the seed is all ones; a step moves every stage up by one and enters the
exclusive OR of the input bit, stage 31 and stage 28 at stage 1; a byte is eight steps, most significant
bit first; an image's signature is the register after its last byte. With no input the register is the
keystream's. -/
def Obligations.SignatureRegisterSteps : Prop :=
  sigSeed = BitVec.allOnes 31
  ∧ (∀ (r : Register31) (input : Bool),
    (sigStep r input).getLsbD 0 = (input ^^ r.getLsbD 30 ^^ r.getLsbD 27)
    ∧ ∀ k, k < 30 → (sigStep r input).getLsbD (k + 1) = r.getLsbD k)
  ∧ (∀ (r : Register31) (b : Byte), sigByte r b =
    sigStep (sigStep (sigStep (sigStep (sigStep (sigStep (sigStep (sigStep r
      (b.getLsbD 7)) (b.getLsbD 6)) (b.getLsbD 5)) (b.getLsbD 4)) (b.getLsbD 3)) (b.getLsbD 2))
      (b.getLsbD 1)) (b.getLsbD 0))
  ∧ signature [] = sigSeed
  ∧ (∀ (bytes : List Byte) (b : Byte), signature (bytes ++ [b]) = sigByte (signature bytes) b)
  ∧ (∀ r : Register31, keystreamByte r = sigByte r 0)

/-- Admission: the first line of R162 that applies decides; and the lock test behind it: the first line of
R110 that applies, for a service that R109 finds restricted. The row of a label is the image of the active
Service Table that carries it, read field by field; label 0 has none. -/
def Obligations.AdmissionFollowsTheTables : Prop :=
  (∀ (s : State) (n : Nat),
    (s.emergency = some n → admissionOf s n = .passOverride)
    ∧ (s.emergency ≠ some n → serviceRow s n = none → admissionOf s n = .noService)
    ∧ ∀ r, s.emergency ≠ some n → serviceRow s n = some r →
      (r.access = .openToAll → admissionOf s n = lockTest s r.rating)
      ∧ (r.access = .package → s.ret.tenancy ≠ .occupied → admissionOf s n = .notEntitled)
      ∧ (∀ g, r.access = .package → s.ret.tenancy = .occupied → s.ret.active = some g →
        admissionOf s n = if g.packages.getLsbD r.package then lockTest s r.rating else .notEntitled)
      ∧ (r.access = .film → (∀ p ∈ s.ret.purchases, p.film ≠ r.film) → admissionOf s n = .notPurchased)
      ∧ (∀ p ∈ s.ret.purchases, r.access = .film → p.film = r.film → admissionOf s n = lockTest s r.rating))
  ∧ (∀ (s : State) (rating : Nat),
    (s.ret.tenancy ≠ .occupied → lockTest s rating = if rating = 0 then .pass else .locked)
    ∧ ∀ g, s.ret.tenancy = .occupied → s.ret.active = some g →
      (rating < g.threshold → lockTest s rating = .pass)
      ∧ (g.threshold ≤ rating →
        (g.lockMode = .off → lockTest s rating = .pass)
        ∧ (g.lockMode = .barred → lockTest s rating = .barred)
        ∧ (g.lockMode = .pin → (∀ e, s.lock.state ≠ .unlocked e) → lockTest s rating = .locked)
        ∧ (∀ e, g.lockMode = .pin → s.lock.state = .unlocked e →
          (g.window = none → lockTest s rating = .pass)
          ∧ (∀ w, g.window = some w →
            lockTest s rating =
              if insideWindow s.time.building w then .pass else .outOfWindow))))
  ∧ (∀ (s : State) (n : Nat),
    (serviceRow s n = none ↔ n = 0 ∨ ∀ image ∈ s.svc.active, field image 0 2 ≠ n)
    ∧ ∀ r, serviceRow s n = some r → n ≠ 0 ∧ ∃ image ∈ s.svc.active, field image 0 2 = n
      ∧ r =
        { label := n
          access :=
            if byteAt image 2 = 1 then .openToAll
            else if byteAt image 2 = 2 then .package
            else if byteAt image 2 = 3 then .film
            else .noMeaning
          rating := (byteAt image 3).toNat
          package := (byteAt image 4).toNat
          film := field image 6 2
          tariffStart := (byteAt image 8).toNat
          tariffCount := (byteAt image 9).toNat
          grace := field image 10 2
          ceiling := field image 12 4 })

/-- The adult window: the start is inside and the end outside; a window whose start is above its end spans
midnight; the day takes no part; with building time UNSET no second is inside. -/
def Obligations.AdultWindowContains : Prop :=
  ∀ w : Window, w.opens ≠ w.closes →
    insideWindow none w = false
    ∧ ∀ t : BuildingTime,
      (w.opens < w.closes → (insideWindow (some t) w = true ↔ w.opens ≤ t.second ∧ t.second < w.closes))
      ∧ (w.closes < w.opens → (insideWindow (some t) w = true ↔ w.opens ≤ t.second ∨ t.second < w.closes))

/-- The admission purge: each queue keeps its order and length; a passed unit that is no longer admitted
is replaced by a blank of its stamp with the new verdict; every other unit stays. An output that lost a
unit has its entry-wait flag set, is BLANKED, and shows the verdict of the last unit blanked; an output
that lost none is as it was. Nothing else of the part changes. -/
def Obligations.AdmissionPurgeBlanksWhatIsLost : Prop :=
  (∀ s : State, purge s = { s with outA := s.outA.purged (admissionOf s), outB := s.outB.purged (admissionOf s) })
  ∧ (∀ (adm : Nat → Verdict) (out : Output),
    let lost (q : QueuedUnit) : Prop :=
      q.verdict.passes = true ∧ (adm q.unit.label.toNat).passes = false
    let after := out.purged adm
    after.queue.length = out.queue.length
    ∧ (∀ (i : Nat) (q : QueuedUnit), out.queue[i]? = some q → lost q → after.queue[i]? = some
        { unit := { q.unit with phase := .clear, payload := zeros 124 }
          stamp := q.stamp
          verdict := adm q.unit.label.toNat })
    ∧ (∀ (i : Nat) (q : QueuedUnit), out.queue[i]? = some q → ¬lost q → after.queue[i]? = some q)
    ∧ ((∀ q ∈ out.queue, ¬lost q) → after = out)
    ∧ (∀ older q newer, out.queue = older ++ q :: newer → lost q → (∀ x ∈ newer, ¬lost x) →
      after = { out with
        queue := after.queue
        entryWait := true
        state := .blanked
        last := adm q.unit.label.toNat }))

/-! ### Time -/

/-- A well-formed time mark is adopted. One equal to building time changes nothing. Another sets building
time and leaves monotonic seconds and the divider. Where no consumer owes a second event (one that is owed
is settled at the old building time first, log 5), its time step event has the window membership, the
billing day and the waiting stages evaluated, in whatever order (log 4): the membership's crossing of an
edge purges the queues, a stage whose time is reached commits. Outputs keep their selections, viewed flags
and units in transfer, and their queues the length and every unit that is blank or that the room may see
before and after (no passed unit that it may not see stays queued after a crossing or a commit of the
Service Table); such a commit empties the key slots that fail the slot test and leaves every other slot at
its index, and without one the keys stand; the one source that can latch is TABLE COMMITTED; where no stage
commits, keys and alerts stand, and without a crossing the outputs too. Every other field of the part stands. (The unit taken: logs 6 and 15.) -/
def Obligations.TimeMarkIsAdopted : Prop :=
  ∀ (s : State) (q : StampedUnit), FeedTakes s .timeMark q →
    ∀ mark, readTimeMark q.unit.payload = some mark →
    let p := afterFeed s
    mark = { day := BitVec.ofNat 16 (field q.unit.payload 0 2), second := field q.unit.payload 2 4 }
    ∧ (p.time.building = some mark → exec .timeMark s = .next p)
    ∧ (p.time.building ≠ some mark →
      ∃ t, exec .timeMark s = .next t
        ∧ t.time = { p.time with building := some mark }
        ∧ t.power = p.power ∧ t.install = p.install ∧ t.readSig = p.readSig ∧ t.merge = p.merge
        ∧ t.results = p.results ∧ t.port = p.port ∧ t.emergency = p.emergency ∧ t.pending = p.pending
        ∧ (p.model.due = [] →
          let stays (tb : Table) : Prop := ∀ g rows due, (machine p tb).stage = .waiting g rows due →
            mark.atOrPast due = false
          let crosses : Prop :=
            (p.lock.membership = .inside ∧ t.lock.membership = .outside)
            ∨ (p.lock.membership = .outside ∧ t.lock.membership = .inside)
          t.ret = (evalBillingDay { p with time := { p.time with building := some mark } }).ret
          ∧ t.lock = { p.lock with membership := membershipNow t }
          ∧ (∀ tb g rows due, (machine p tb).stage = .waiting g rows due →
            (machine p tb).commitDue = false → mark.atOrPast due = true →
            machine t tb = { machine p tb with activeGen := g, active := rows, stage := .idle }
              ∧ t.alerts.isLatched .tableCommitted = true)
          ∧ (∀ tb, stays tb → machine t tb = machine p tb)
          ∧ (t.svc ≠ p.svc → SlotsFlushed (fun k => slotOk t k = true) p.keys.slots t.keys.slots)
          ∧ (t.svc = p.svc → t.keys = p.keys)
          ∧ (∀ o, QueuePurged [admissionOf { p with time := t.time }, admissionOf t]
            (output p o).queue (output t o).queue)
          ∧ (crosses ∨ t.svc ≠ p.svc → PassedAdmitted t t.outA ∧ PassedAdmitted t t.outB)
          ∧ (∀ src, src ≠ .tableCommitted → t.alerts.isLatched src = p.alerts.isLatched src)
          ∧ ((∀ tb, stays tb) → t.svc = p.svc ∧ t.alerts = p.alerts
            ∧ (crosses → t.outA = p.outA.purged (admissionOf t) ∧ t.outB = p.outB.purged (admissionOf t))
            ∧ (¬crosses → t.outA = p.outA ∧ t.outB = p.outB))
          ∧ t = { p with
              time := t.time
              ret := t.ret
              lock := t.lock
              svc := t.svc
              tar := t.tar
              keys := { p.keys with slots := t.keys.slots }
              outA := { p.outA with
                queue := t.outA.queue, state := t.outA.state, entryWait := t.outA.entryWait, last := t.outA.last }
              outB := { p.outB with
                queue := t.outB.queue, state := t.outB.state, entryWait := t.outB.entryWait, last := t.outB.last }
              alerts := { p.alerts with latched := t.alerts.latched }
              model := t.model }))

/-- The second event advances monotonic seconds by one and building time, where SET, by one second; it is
raised in every state of a live part (when it comes is the sender's, log 21). Each of its four consumers
takes it whole, in an order of a free choice, or owes it, to take it in a step of its own (logs 4 and 5);
what is still owed of the last event is taken first. The choice also says in which order the Lock Unit does
its two reactions (log 26). With no free choice left the order is that of the table of 3.4, with the expiry
before the membership (the model's choice). Outside STARTING the lock's expiry closes it, the membership is
evaluated and a crossing purges, the meter evaluates the billing day, takes the live purchases and clears
the viewed flags, a PENDING stage whose time is reached commits, and a reached completion timeout completes
the change of tenancy. What each consumer does is said as well. -/
def Obligations.SecondEventAdvancesBothClocks : Prop :=
  (∀ s : State, live s = true →
    ∃ t, exec .secondEvent s = .next t
      ∧ t.time.mono = s.time.mono + 1
      ∧ t.time.building = s.time.building.map BuildingTime.advance
      ∧ t.power = s.power ∧ t.install = s.install ∧ t.readSig = s.readSig ∧ t.merge = s.merge
      ∧ t.results = s.results ∧ t.port = s.port ∧ t.emergency = s.emergency ∧ t.pending = s.pending)
  ∧ (∀ s : State, live s = false → exec .secondEvent s = .next s)
  ∧ (∀ s : State, live s = true → s.model.due = [] → s.model.choices = [] →
    exec .secondEvent s = .next
      (tenancySecond (loaderEvent (meterSecond (windowEvent (expiryEvent
        { s with
          time :=
            { mono := s.time.mono + 1
              divider := 0
              building := s.time.building.map BuildingTime.advance }
          model := { s.model with windowFirst := false } }))))))
  ∧ (∀ s : State, live s = true →
    let choice : Choice := s.model.choices.headD { order := [], later := [], windowFirst := false }
    let consumers : List Consumer := [.lock, .meter, .loader, .tenancy]
    let settled : State :=
      s.model.due.foldl (fun u c => takeSecond c u) { s with model := { s.model with due := [] } }
    ∃ order : List Consumer, order.Perm consumers
      ∧ (choice.order.Perm consumers → order = choice.order)
      ∧ exec .secondEvent s = .next (order.foldl
        (fun u c =>
          if c ∈ choice.later then { u with model := { u.model with due := u.model.due ++ [c] } }
          else takeSecond c u)
        { settled with
          time :=
            { mono := s.time.mono + 1
              divider := 0
              building := s.time.building.map BuildingTime.advance }
          model :=
            { choices := s.model.choices.tail
              due := []
              windowFirst := choice.windowFirst
              drawn := s.model.drawn } }))
  ∧ (∀ s : State,
    (s.model.windowFirst = false → takeSecond .lock s = windowEvent (expiryEvent s))
    ∧ (s.model.windowFirst = true → takeSecond .lock s = expiryEvent (windowEvent s))
    ∧ takeSecond .meter s = meterSecond s ∧ takeSecond .loader s = loaderEvent s
    ∧ takeSecond .tenancy s = tenancySecond s)
  ∧ (∀ b : BuildingTime,
    (b.second < 86399 → b.advance = { day := b.day, second := b.second + 1 })
    ∧ (b.second = 86399 → b.advance = { day := b.day + 1, second := 0 }))
  ∧ (∀ s : State, running s = true → s.model.due = [] → s.model.choices = [] →
    ∃ t, exec .secondEvent s = .next t
      ∧ (s.lock.state = .unlocked (s.time.mono + 1) →
        t.lock.state = .locked ∧ t.alerts.isLatched .sessionEnded = true)
      ∧ (s.lock.state = .lockout (s.time.mono + 1) → t.lock.state = .locked)
      ∧ t.lock.membership = membershipNow t
      ∧ t.outA.viewed = false ∧ t.outB.viewed = false
      ∧ (∀ tb g rows due, (machine s tb).stage = .waiting g rows due → (machine s tb).commitDue = false →
        reached (s.time.building.map BuildingTime.advance) due = true →
        machine t tb = { machine s tb with activeGen := g, active := rows, stage := .idle }
          ∧ t.alerts.isLatched .tableCommitted = true)
      ∧ (s.ret.tenancy = .closing → s.closing = some (s.time.mono + 1) →
        t.ret.tenancy = (if s.ret.incoming.isSome then .occupied else .vacant)
        ∧ t.ret.active = s.ret.incoming ∧ t.ret.incoming = none ∧ t.closing = none
        ∧ t.ret.spentToday = 0 ∧ t.alerts.isLatched .tenancyChanged = true)
      ∧ (s.ret.tenancy = .closing → s.closing ≠ some (s.time.mono + 1) →
        t.ret.tenancy = .closing ∧ t.closing = s.closing))
  ∧ (∀ s : State, running s = false →
    expiryEvent s = s ∧ windowEvent s = s ∧ meterSecond s = s ∧ tenancySecond s = s)
  ∧ (∀ s : State, running s = true →
    let crosses : Prop :=
      (s.lock.membership = .inside ∧ membershipNow s = .outside)
      ∨ (s.lock.membership = .outside ∧ membershipNow s = .inside)
    let evaluated : State := { s with lock := { s.lock with membership := membershipNow s } }
    let e := evalBillingDay s
    (s.lock.state = .unlocked s.time.mono → expiryEvent s = purge
      { s with lock := { s.lock with state := .locked }, alerts := s.alerts.latch .sessionEnded })
    ∧ (s.lock.state = .lockout s.time.mono → expiryEvent s =
      { s with lock := { s.lock with state := .locked } })
    ∧ (s.lock.state ≠ .unlocked s.time.mono → s.lock.state ≠ .lockout s.time.mono → expiryEvent s = s)
    ∧ (crosses → windowEvent s = purge evaluated) ∧ (¬crosses → windowEvent s = evaluated)
    ∧ (s.emergency ≠ none → meterSecond s = clearViewed e)
    ∧ (s.emergency = none → meterSecond s = clearViewed
      (e.ret.purchases.foldl (fun u p => meterPurchase p.number (isViewed e p.film) u) e))
    ∧ (s.ret.tenancy = .closing → s.closing = some s.time.mono → Completed s (tenancySecond s))
    ∧ (s.ret.tenancy ≠ .closing ∨ s.closing ≠ some s.time.mono → tenancySecond s = s))
  ∧ (∀ s : State,
    loaderEvent s = activateIfReached .tariff (activateIfReached .service s)
    ∧ (∀ tb g rows due, (machine s tb).stage = .waiting g rows due → (machine s tb).commitDue = false →
      reached s.time.building due = true → activateIfReached tb s = commit tb s)
    ∧ (∀ tb, (∀ g rows due, (machine s tb).stage = .waiting g rows due →
      reached s.time.building due = false) → activateIfReached tb s = s)
    ∧ (s.ret.tenancy ≠ .occupied → membershipNow s = .none)
    ∧ (s.ret.tenancy ≠ .occupied ∨ s.time.building = none → evalBillingDay s = s)
    ∧ (∀ g, s.ret.tenancy = .occupied → s.ret.active = some g →
      (g.window = none → membershipNow s = .none)
      ∧ (∀ w, g.window = some w →
        membershipNow s = if insideWindow s.time.building w then .inside else .outside)
      ∧ ∀ b, s.time.building = some b →
        let day := billingDayUnder g b
        (s.ret.billingDay = none → evalBillingDay s = { s with ret := { s.ret with billingDay := some day } })
        ∧ (∀ c, s.ret.billingDay = some c →
          let moved := (day.toNat + 65536 - c.toNat) % 65536
          (1 ≤ moved → moved ≤ 32767 →
            evalBillingDay s = { s with ret := { s.ret with billingDay := some day, spentToday := 0 } })
          ∧ (moved = 0 ∨ 32768 ≤ moved → evalBillingDay s = s))))

/-- Building time is at or past an activation time by the difference of the days mod 65,536 and, on one
day, by the second of day; with building time UNSET none is reached. -/
def Obligations.ActivationTimeIsReached : Prop :=
  ∀ due : BuildingTime,
    reached none due = false
    ∧ ∀ now : BuildingTime,
      (reached (some now) due = true ↔
        (1 ≤ (now.day.toNat + 65536 - due.day.toNat) % 65536
          ∧ (now.day.toNat + 65536 - due.day.toNat) % 65536 ≤ 32767)
        ∨ ((now.day.toNat + 65536 - due.day.toNat) % 65536 = 0 ∧ due.second ≤ now.second))

/-! ### Tables -/

/-- The three table directives: what the machine of their table does by its state, and that nothing else
changes. That the signature register holds the seed until the check ends, and after a check that TABLE OPEN
abandons, is the model's choice (log 17). (The unit taken: logs 6 and 15.) -/
def Obligations.TableDirectivesMoveTheStage : Prop :=
  ∀ (s : State) (q : StampedUnit),
    let p := afterFeed s
    (∀ t g, FeedTakes s .tableOpen q → readTableOpen q.unit.payload = some (t, g) →
      let kept : Prop := g = (machine p t).activeGen
        ∨ (∃ rows e a, (machine p t).stage = .checking g rows e a)
        ∨ (∃ rows a, (machine p t).stage = .waiting g rows a)
      (kept → exec .tableOpen s = .next p)
      ∧ (¬kept → exec .tableOpen s = .next
        (withMachine t { machine p t with stage := .filling g (vacantTable t) } p)))
    ∧ (∀ x, FeedTakes s .tableRows q → readTableRows q.unit.payload = some x →
      (∀ rows, (machine p x.table).stage = .filling x.generation rows →
        exec .tableRows s = .next (withMachine x.table
          { machine p x.table with
            stage := .filling x.generation
              (rows.take x.first ++ x.rows ++ rows.drop (x.first + x.rows.length)) } p))
      ∧ ((∀ rows, (machine p x.table).stage ≠ .filling x.generation rows) →
        exec .tableRows s = .next p))
    ∧ (∀ x, FeedTakes s .tableClose q → readTableClose q.unit.payload = some x →
      (∀ rows, (machine p x.table).stage = .filling x.generation rows →
        exec .tableClose s = .next (withMachine x.table
          { machine p x.table with
            stage := .checking x.generation rows x.expected x.activation
            sigReg := 0x7FFFFFFF } p))
      ∧ ((∀ rows, (machine p x.table).stage ≠ .filling x.generation rows) →
        exec .tableClose s = .next p))

/-- The completion of a check records the signature whatever the outcome. It rejects the stage on a
difference or a failed validation; otherwise it commits at once without an activation time or with one
that is reached, and waits with one that is not. A commit may be left due until the Classifier is between
units (a free choice, log 6). With no check running, a check whose commit already stands due among them,
nothing happens (log 1). The validation of each table is
said image by image. (What the register holds while a check runs: log 17.) -/
def Obligations.CheckCompletionDecidesTheStage : Prop :=
  (∀ (t : Table) (s : State),
    (∀ g rows expected activation, live s = true →
      (machine s t).stage = .checking g rows expected activation → (machine s t).commitDue = false →
      let sig := signature rows.flatten
      let m : TableMachine := { machine s t with sigReg := sig, lastSig := some sig }
      (sig.toNat ≠ expected ∨ stageOk t rows = false →
        exec (.checkCompletion t) s = .next
          { withMachine t { m with stage := .idle } s with alerts := s.alerts.latch .tableRejected })
      ∧ (sig.toNat = expected → stageOk t rows = true →
        (∀ due, activation = some due → reached s.time.building due = false →
          exec (.checkCompletion t) s = .next (withMachine t { m with stage := .waiting g rows due } s))
        ∧ (activation = none ∨ (∃ due, activation = some due ∧ reached s.time.building due = true) →
          (.loader ∉ (nextChoice s).later →
            exec (.checkCompletion t) s = .next (commit t (usedChoice (withMachine t m s))))
          ∧ (.loader ∈ (nextChoice s).later →
            exec (.checkCompletion t) s = .next
              (usedChoice (withMachine t { m with commitDue := true } s))))))
    ∧ (live s = false ∨ (machine s t).commitDue = true
        ∨ (∀ g rows e a, (machine s t).stage ≠ .checking g rows e a) →
      exec (.checkCompletion t) s = .next s))
  ∧ (∀ rows : List Image,
    let number (image : Image) (i : Nat) : Nat := (byteAt image i).toNat
    let label (image : Image) : Nat := field image 0 2
    let noFilm (image : Image) : Prop :=
      field image 6 2 = 0 ∧ number image 8 = 0 ∧ number image 9 = 0 ∧ field image 10 2 = 0
      ∧ field image 12 4 = 0
    (stageOk .service rows = true ↔
      (∀ image ∈ rows,
        (label image = 0 ∧ ∀ b ∈ image, b = 0)
        ∨ (1 ≤ label image ∧ label image ≤ 4079 ∧ number image 3 ≤ 7 ∧ number image 5 = 0
          ∧ ((number image 2 = 1 ∧ number image 4 = 0 ∧ noFilm image)
            ∨ (number image 2 = 2 ∧ number image 4 ≤ 31 ∧ noFilm image)
            ∨ (number image 2 = 3 ∧ number image 4 = 0 ∧ field image 6 2 ≠ 0
              ∧ number image 8 ≤ 31 ∧ 1 ≤ number image 9 ∧ number image 9 ≤ 8
              ∧ field image 10 2 ≤ 900 ∧ field image 12 4 ≤ 999999))))
      ∧ ((rows.map label).filter (fun n => decide (n ≠ 0))).Nodup
      ∧ ((rows.filter fun image => decide (label image ≠ 0 ∧ number image 2 = 3)).map
          fun image => field image 6 2).Nodup)
    ∧ (stageOk .tariff rows = true ↔ ∀ image ∈ rows,
      (∀ b ∈ image, b = 0)
      ∨ (1 ≤ field image 0 4 ∧ field image 0 4 ≤ 1048575 ∧ (number image 4 = 1 ∨ number image 4 = 2)
        ∧ field image 6 3 ≤ 99999 ∧ field image 9 2 ≤ 9999 ∧ number image 11 = 0)))

/-- A commit makes the stage the active copy, names its generation, leaves the machine IDLE and latches
TABLE COMMITTED. A Service Table commit has the Key Table flush the slots that fail the slot test against
the new copy, and the gate put each output whose label lost its row in WAITING before it purges the queues;
the slot test is said in full. TABLE_COMMIT makes a commit that stands due, and TABLE_ACTIVATION, for a
PENDING stage whose time is reached and whose commit does not stand due yet, makes the commit or leaves it
due by a free choice: that a decided commit can stand due, and how long, is the model's (log 6), and so is
the activation in a step of its own (log 5). In every other state, and in a part that is not live, the two
rows change nothing (log 1). Between units each commit that stands due is made (log 6); one of an IDLE
stage, which no rule leaves, changes nothing (log 23). -/
def Obligations.CommitMakesTheStageActive : Prop :=
  (∀ (s : State) (g : Nat) (rows : List Image), s.tar.stage.contents = some (g, rows) →
    commit .tariff s =
      { s with
        tar := { s.tar with activeGen := g, active := rows, stage := .idle, commitDue := false }
        alerts := s.alerts.latch .tableCommitted })
  ∧ (∀ (s : State) (g : Nat) (rows : List Image), s.svc.stage.contents = some (g, rows) →
    let t := commit .service s
    let lostRow (out : Output) : Output :=
      if out.selected ≠ 0 ∧ serviceRow t out.selected = none then
        { out with state := .waiting, entryWait := true, last := .noService }
      else out
    t.svc = { s.svc with activeGen := g, active := rows, stage := .idle, commitDue := false }
    ∧ t.alerts = s.alerts.latch .tableCommitted
    ∧ SlotsFlushed (fun k => slotOk t k = true) s.keys.slots t.keys.slots
    ∧ t.outA = (lostRow s.outA).purged (admissionOf t) ∧ t.outB = (lostRow s.outB).purged (admissionOf t)
    ∧ t = { s with
        svc := t.svc
        alerts := t.alerts
        keys := { s.keys with slots := t.keys.slots }
        outA := t.outA
        outB := t.outB })
  ∧ (∀ (t : Table) (s : State), live s = true →
    ((machine s t).commitDue = true → exec (.tableCommit t) s = .next (commit t s))
    ∧ ((machine s t).commitDue = false → exec (.tableCommit t) s = .next s)
    ∧ (∀ g rows due, (machine s t).stage = .waiting g rows due → (machine s t).commitDue = false →
      (reached s.time.building due = true → .loader ∉ (nextChoice s).later →
        exec (.tableActivation t) s = .next (commit t (usedChoice s)))
      ∧ (reached s.time.building due = true → .loader ∈ (nextChoice s).later →
        exec (.tableActivation t) s = .next
          (usedChoice (withMachine t { machine s t with commitDue := true } s)))
      ∧ (reached s.time.building due = false → exec (.tableActivation t) s = .next s)))
  ∧ (∀ (t : Table) (s : State),
    (live s = false → exec (.tableCommit t) s = .next s ∧ exec (.tableActivation t) s = .next s)
    ∧ ((machine s t).commitDue = true → exec (.tableActivation t) s = .next s)
    ∧ ((∀ g rows due, (machine s t).stage ≠ .waiting g rows due) → exec (.tableActivation t) s = .next s)
    ∧ ((machine s t).stage = .idle → commit t s = s))
  ∧ (∀ s : State,
    let first : State := if s.svc.commitDue = true then commit .service s else s
    commitsDue s = if s.tar.commitDue = true then commit .tariff first else first)
  ∧ (∀ (s : State) (k : KeySlot), slotOk s k = true ↔ ∃ r, serviceRow s k.label = some r ∧
    ((r.access = .openToAll ∧ k.house = true)
    ∨ (r.access = .package ∧ k.house = false ∧ s.ret.tenancy = .occupied
      ∧ ∃ g, s.ret.active = some g ∧ g.packages.getLsbD r.package = true)
    ∨ (r.access = .film ∧ k.house = false ∧ ∃ p ∈ s.ret.purchases, p.film = r.film)))

/-! ### Keys -/

/-- The well-formed entries of a key unit are taken one at a time in their order; a malformed key unit has
none. An entry that its row, the tenancy and the purchases do not allow is discarded. (The unit taken: logs
6 and 15.) -/
def Obligations.KeyEntriesAreAccepted : Prop :=
  (∀ (s : State) (q : StampedUnit), FeedTakes s .keyUnit q →
    exec .keyUnit s = .next ((readKeyUnit q.unit.payload).foldl takeEntry (afterFeed s)))
  ∧ (∀ payload : List Byte,
    let number (i : Nat) : Nat := (byteAt payload i).toNat
    (number 0 = 0 ∨ 9 < number 0 ∨ number 1 ≠ 0 ∨ number 2 ≠ 0 ∨ number 3 ≠ 0 → readKeyUnit payload = [])
    ∧ (1 ≤ number 0 → number 0 ≤ 9 → number 1 = 0 → number 2 = 0 → number 3 = 0 →
      readKeyUnit payload = (List.range (number 0)).filterMap fun i =>
        readKeyEntry ((payload.drop (4 + 12 * i)).take 12)))
  ∧ (∀ (entry : List Byte) (e : KeyEntry), readKeyEntry entry = some e ↔
    e.label = field entry 0 2 ∧ 1 ≤ e.label ∧ e.label ≤ 4079
    ∧ e.package = (byteAt entry 2).toNat ∧ e.package ≤ 31
    ∧ (∀ i, 1 ≤ i → i ≤ 6 → (byteAt entry 3).getLsbD i = false)
    ∧ e.house = (byteAt entry 3).getLsbD 7 ∧ e.phaseB = (byteAt entry 3).getLsbD 0
    ∧ e.word = BitVec.ofNat 64 (field entry 4 8))
  ∧ (∀ (s : State) (e : KeyEntry),
    (serviceRow s e.label = none → takeEntry s e = s)
    ∧ ∀ r, serviceRow s e.label = some r →
      let admitted : Prop :=
        (r.access = .openToAll ∧ e.house = true)
        ∨ (r.access = .package ∧ e.house = false ∧ s.ret.tenancy = .occupied ∧ e.package = r.package
          ∧ ∃ g, s.ret.active = some g ∧ g.packages.getLsbD r.package = true)
        ∨ (r.access = .film ∧ e.house = false ∧ ∃ p ∈ s.ret.purchases, p.film = r.film)
      (admitted → takeEntry s e = placeEntry e s) ∧ (¬admitted → takeEntry s e = s))

/-- The placement of an accepted entry: into the slot of its label, else into the EMPTY slot of lowest
index, else in the place of the oldest candidate, an unused one before a used one, else nowhere with KEY
TABLE FULL. A load advances the load counter and gives the slot its new value. -/
def Obligations.KeyEntriesArePlaced : Prop :=
  ∀ (s : State) (e : KeyEntry),
    let slots := s.keys.slots
    let order := s.keys.loads + 1
    let fresh : KeySlot :=
      { label := e.label
        house := e.house
        wordA := if e.phaseB then none else some e.word
        wordB := if e.phaseB then some e.word else none
        used := false
        order := order }
    let loaded (i : Nat) (k : KeySlot) : State :=
      { s with keys := { s.keys with slots := slots.set i (some k), loads := order } }
    let age (k : KeySlot) : Nat := (s.keys.loads - k.order).toNat
    let candidate (k : KeySlot) : Prop :=
      k.house = false ∧ s.outA.selected ≠ k.label ∧ s.outB.selected ≠ k.label
    let noSlot : Prop := ∀ k, some k ∈ slots → k.label ≠ e.label
    (∀ (i : Nat) (k : KeySlot), slots[i]? = some (some k) → k.label = e.label →
      (∀ j k', j < i → slots[j]? = some (some k') → k'.label ≠ e.label) →
      placeEntry e s = loaded i
        { k with
          wordA := if e.phaseB then k.wordA else some e.word
          wordB := if e.phaseB then some e.word else k.wordB
          used := false
          order := order })
    ∧ (∀ i : Nat, noSlot → slots[i]? = some none → (∀ j, j < i → slots[j]? ≠ some none) →
      placeEntry e s = loaded i fresh)
    ∧ (noSlot → none ∉ slots → (∃ k, some k ∈ slots ∧ candidate k) →
      ∃ i k, slots[i]? = some (some k) ∧ candidate k ∧ placeEntry e s = loaded i fresh
        ∧ (k.used = true → ∀ k', some k' ∈ slots → candidate k' → k'.used = true)
        ∧ ∀ j k', slots[j]? = some (some k') → candidate k' → k'.used = k.used →
          age k' < age k ∨ (age k' = age k ∧ i ≤ j))
    ∧ (noSlot → none ∉ slots → (∀ k, some k ∈ slots → ¬candidate k) →
      placeEntry e s = { s with alerts := s.alerts.latch .keyTableFull })

/-! ### Tenancy -/

/-- A ROOM RECORD for the PENDING slot fills it and does nothing else; one for the ACTIVE slot outside an
OCCUPIED tenancy, or of another tenancy id, is ignored with DIRECTIVE FAULT. One for the ACTIVE slot of the
present stay replaces the active record; the Key Table flushes the slots of packages no longer held; the
lock closes with failures 0 where the PIN, the mode or the threshold differs; the membership is evaluated;
and no passed unit that the room may no longer see stays queued. A queued unit that it may still see stays
as it was, and an output keeps its selection, saved label, viewed flag, unit in transfer and ready line
(`OutputPurged`): the purges are taken under the new record, with the lock as it stood or closed. This holds
whatever the order of the consumers (log 4). (The unit taken: logs 6 and 15.) -/
def Obligations.RoomRecordReachesItsSlot : Prop :=
  ∀ (s : State) (q : StampedUnit) (r : RoomRecord), FeedTakes s .roomRecord q →
    let p := afterFeed s
    (readRoomRecord q.unit.payload = some (false, r) →
      exec .roomRecord s = .next { p with ret := { p.ret with waiting := some r } })
    ∧ (readRoomRecord q.unit.payload = some (true, r) →
      (p.ret.tenancy ≠ .occupied ∨ ∀ old, p.ret.active = some old → r.tenancyId ≠ old.tenancyId) →
      exec .roomRecord s = .next { p with alerts := p.alerts.latch .directiveFault })
    ∧ ∀ old, readRoomRecord q.unit.payload = some (true, r) →
      p.ret.tenancy = .occupied → p.ret.active = some old → r.tenancyId = old.tenancyId →
      let differs : Bool :=
        decide (old.pin ≠ r.pin ∨ old.lockMode ≠ r.lockMode ∨ old.threshold ≠ r.threshold)
      ∃ t, exec .roomRecord s = .next t
        ∧ t.ret = { p.ret with active := some r, failures := if differs then 0 else p.ret.failures }
        ∧ t.lock.state = (if differs then .locked else p.lock.state)
        ∧ t.lock.membership = membershipNow t
        ∧ SlotsFlushed
          (fun k => ∀ row, serviceRow p k.label = some row → row.access = .package →
            r.packages.getLsbD row.package = true)
          p.keys.slots t.keys.slots
        ∧ PassedAdmitted t t.outA ∧ PassedAdmitted t t.outB
        ∧ (∀ o, OutputPurged
          [admissionOf { p with ret := { p.ret with active := some r } }, admissionOf t]
          (output p o) (output t o))
        ∧ t.alerts = p.alerts.latchIf (differs && p.lock.state.isUnlocked) .sessionEnded
        ∧ t = { p with
            ret := t.ret
            lock := t.lock
            keys := { p.keys with slots := t.keys.slots }
            outA := t.outA
            outB := t.outB
            alerts := t.alerts
            model := { p.model with choices := p.model.choices.tail } }

/-- TENANCY CHANGE is ignored in CLOSING. Otherwise every live purchase ends with reason TENANCY, the slots
whose house flag is clear are emptied, the lock is closed and cleared, the pending record moves to the
incoming slot; and the change stays in CLOSING for 60 seconds or, where every record has been offered,
completes at once. SESSION ENDED latches where the lock was UNLOCKED, PURCHASE ENDED where a purchase was
live, TENANCY CHANGED at a completion, BILLING HIGH where the END records reach the threshold in the sense
RISING; every other source is as before. The purges are taken with the stay closed, before or after the
purchases have ended, and at a completion: a queued unit that is blank, or that the room may see through all
of it, stays as it was; no passed unit stays that it may not see with the stay closed or now; an output keeps
its selection, saved label, viewed flag, unit in transfer and ready line (`OutputPurged`). Every other field
stands. This holds whatever the order of the consumers (one free choice is used up, log 4). (The unit taken:
logs 6 and 15.) -/
def Obligations.TenancyChangeClosesTheStay : Prop :=
  ∀ (s : State) (q : StampedUnit), FeedTakes s .tenancyChange q →
    readNoBody q.unit.payload = some () →
    let p := afterFeed s
    let closed (purchases : List Purchase) : State :=
      { p with ret := { p.ret with tenancy := .closing, purchases := purchases } }
    (p.ret.tenancy = .closing → exec .tenancyChange s = .next p)
    ∧ (p.ret.tenancy ≠ .closing →
      ∃ t, exec .tenancyChange s = .next t
        ∧ AllEnded .tenancy p t
        ∧ SlotsFlushed
          (fun k => k.house = true
            ∧ ∀ row, serviceRow p k.label = some row → row.access = .film →
              ∀ x ∈ p.ret.purchases, row.film ≠ x.film)
          p.keys.slots t.keys.slots
        ∧ t.lock.state = .locked ∧ t.lock.membership = membershipNow t ∧ t.ret.failures = 0
        ∧ t.ret.waiting = none ∧ t.ret.nextPurchase = p.ret.nextPurchase
        ∧ (∀ o, OutputPurged
          [admissionOf (closed p.ret.purchases), admissionOf (closed []), admissionOf t]
          (output p o) (output t o))
        ∧ PassedAdmitted (closed []) t.outA ∧ PassedAdmitted (closed []) t.outB
        ∧ PassedAdmitted t t.outA ∧ PassedAdmitted t t.outB
        ∧ ((∃ rec ∈ t.ret.records, rec.offered = false) →
          t.ret.tenancy = .closing ∧ t.ret.active = p.ret.active ∧ t.ret.incoming = p.ret.waiting
            ∧ t.closing = some (p.time.mono + 60) ∧ t.ret.spentToday = p.ret.spentToday
            ∧ t.ret.billingDay = p.ret.billingDay)
        ∧ ((∀ rec ∈ t.ret.records, rec.offered = true) →
          t.ret.tenancy = (if p.ret.waiting.isSome then .occupied else .vacant)
            ∧ t.ret.active = p.ret.waiting ∧ t.ret.incoming = none ∧ t.closing = none
            ∧ t.ret.spentToday = 0
            ∧ t.ret.billingDay =
              p.ret.waiting.bind fun r => p.time.building.map fun b => billingDayUnder r b)
        ∧ (∀ src, t.alerts.isLatched src = true ↔ p.alerts.isLatched src = true
          ∨ (src = .sessionEnded ∧ ∃ e, p.lock.state = .unlocked e)
          ∨ (src = .purchaseEnded ∧ p.ret.purchases ≠ [])
          ∨ (src = .billingHigh
            ∧ PostsReachBillingHigh p p.ret.records.length p.ret.purchases.length)
          ∨ (src = .tenancyChanged ∧ ∀ rec ∈ t.ret.records, rec.offered = true))
        ∧ t = { p with
            ret := t.ret
            lock := t.lock
            closing := t.closing
            offer := t.offer
            keys := { p.keys with slots := t.keys.slots }
            outA := t.outA
            outB := t.outB
            alerts := { p.alerts with latched := t.alerts.latched }
            model := { p.model with choices := p.model.choices.tail } })

/-- The completion of a change of tenancy: at the timeout whatever records remain unoffered, and at a test
of the completion condition where every record has been offered. That COMPLETION_TIMEOUT takes the second
event in a step of its own and pays the debt is the model's choice (log 5); that the condition is not tested
in STARTING is DEDUCED and unsafe for the moment of a completion there (log 16); elsewhere the command does
nothing (log 1). The lock and the failures count at a completion are as log 28 reads R106. -/
def Obligations.TenancyCompletes : Prop :=
  (∀ s : State, running s = true → s.ret.tenancy = .closing → s.closing = some s.time.mono →
    ∃ t, exec .completionTimeout s = .next t ∧ Completed s t
      ∧ t.model = { s.model with due := s.model.due.erase .tenancy })
  ∧ (∀ s : State, (running s = false ∨ s.ret.tenancy ≠ .closing ∨ s.closing ≠ some s.time.mono) →
    exec .completionTimeout s = .next s)
  ∧ (∀ s : State, running s = true → s.ret.tenancy = .closing →
    (∀ rec ∈ s.ret.records, rec.offered = true) → Completed s (testCompletion s))
  ∧ (∀ s : State, (running s = false ∨ s.ret.tenancy ≠ .closing
      ∨ ∃ rec ∈ s.ret.records, rec.offered = false) → testCompletion s = s)

/-! ### The lock -/

/-- The checks of PIN ENTRY in their order: the first that fails gives the result, and the command changes
nothing but the Result Queue. (The unit taken: log 6.) -/
def Obligations.PinEntryIsRefusedInOrder : Prop :=
  ∀ (s : State) (q : StampedUnit) (digits : Pin), LocalTakes s (.command .pinEntry) q →
    readPinEntry q.unit.payload = some digits →
    let p := afterLocal s
    let refused (code : ResultCode) : Prop := exec .pinEntry s = .next (answered q code [] p)
    (p.ret.tenancy = .closing → refused .closing)
    ∧ (p.ret.tenancy = .vacant → refused .vacant)
    ∧ ∀ g, p.ret.tenancy = .occupied → p.ret.active = some g →
      (g.lockMode = .barred → refused .barred)
      ∧ (g.lockMode ≠ .barred → g.pin = none → refused .noPin)
      ∧ (g.lockMode = .off → g.pin ≠ none → refused .done)
      ∧ (∀ e, g.lockMode = .pin → g.pin ≠ none → p.lock.state = .lockout e → refused .lockedOut)

/-- The comparison of PIN ENTRY: a correct PIN opens the lock for the record's session length, or renews
the open session, and clears the count; a wrong one in LOCKED is counted, the third brings a lockout of
900 seconds; a wrong one in UNLOCKED closes the lock with SESSION ENDED and the purge and leaves the count
one higher. (The unit taken: log 6.) -/
def Obligations.PinEntryComparesThePin : Prop :=
  ∀ (s : State) (q : StampedUnit) (digits pin : Pin) (g : RoomRecord),
    LocalTakes s (.command .pinEntry) q → readPinEntry q.unit.payload = some digits →
    let p := afterLocal s
    p.ret.tenancy = .occupied → p.ret.active = some g → g.lockMode = .pin → g.pin = some pin →
    ((∀ e, p.lock.state ≠ .lockout e) → digits = pin →
      exec .pinEntry s = .next (answered q .done []
        { p with
          lock := { p.lock with state := .unlocked (p.time.mono + BitVec.ofNat 32 g.session) }
          ret := { p.ret with failures := 0 } }))
    ∧ (p.lock.state = .locked → digits ≠ pin → p.ret.failures < 2 →
      exec .pinEntry s = .next (answered q .wrongPin []
        { p with ret := { p.ret with failures := p.ret.failures + 1 } }))
    ∧ (p.lock.state = .locked → digits ≠ pin → p.ret.failures = 2 →
      exec .pinEntry s = .next (answered q .wrongPin []
        { p with
          lock := { p.lock with state := .lockout (p.time.mono + 900) }
          alerts := p.alerts.latch .lockout
          ret := { p.ret with failures := 0 } }))
    ∧ (∀ e, p.lock.state = .unlocked e → digits ≠ pin →
      let closed : State := purge
        { p with
          lock := { p.lock with state := .locked }
          alerts := p.alerts.latch .sessionEnded }
      exec .pinEntry s = .next (answered q .wrongPin []
        { closed with ret := { closed.ret with failures := p.ret.failures + 1 } }))

/-- RELOCK closes an UNLOCKED lock with SESSION ENDED and the purge, keeps the failures count, changes
nothing in LOCKED or LOCKOUT, and is answered DONE in every state; LOCK RESET also cancels a lockout and
clears the count. (The unit taken: logs 6 and 15.) -/
def Obligations.RelockAndLockResetCloseTheLock : Prop :=
  ∀ (s : State) (q : StampedUnit),
    let closed (p : State) : State := purge
      { p with
        lock := { p.lock with state := .locked }
        alerts := p.alerts.latch .sessionEnded }
    let cleared (p : State) : State := { p with ret := { p.ret with failures := 0 } }
    (LocalTakes s (.command .relock) q → readRelock q.unit.payload = some () →
      let p := afterLocal s
      (∀ e, p.lock.state = .unlocked e → exec .relock s = .next (answered q .done [] (closed p)))
      ∧ ((∀ e, p.lock.state ≠ .unlocked e) → exec .relock s = .next (answered q .done [] p)))
    ∧ (FeedTakes s .lockReset q → readNoBody q.unit.payload = some () →
      let p := afterFeed s
      (∀ e, p.lock.state = .unlocked e → exec .lockReset s = .next (cleared (closed p)))
      ∧ (∀ e, p.lock.state = .lockout e → exec .lockReset s = .next
        (cleared { p with lock := { p.lock with state := .locked } }))
      ∧ (p.lock.state = .locked → exec .lockReset s = .next (cleared p)))

/-- The session expiry, reached, closes the lock with SESSION ENDED and the purge; the lockout expiry,
reached, ends the lockout with neither. The failures count is kept. The Lock Unit takes the second event
whole: in the same step it evaluates the window membership, and a crossing purges the queues, after the
expiry or before it by a free choice (that order is the model's, log 26). An expiry that is not reached, and
a part in STARTING, is left as it is. (That the Lock Unit may take the second event in a step of its own is
the model's form, log 5.) -/
def Obligations.LockExpiriesCloseTheLock : Prop :=
  ∀ s : State,
    let paidUp : State := { s with model := { s.model with due := s.model.due.erase .lock } }
    let closed (u : State) : State := purge
      { u with lock := { u.lock with state := .locked }, alerts := u.alerts.latch .sessionEnded }
    let freed (u : State) : State := { u with lock := { u.lock with state := .locked } }
    let evaluated (u : State) : State :=
      let v : State := { u with lock := { u.lock with membership := membershipNow u } }
      if (u.lock.membership = .inside ∧ membershipNow u = .outside)
          ∨ (u.lock.membership = .outside ∧ membershipNow u = .inside) then purge v
      else v
    (running s = true → s.lock.state = .unlocked s.time.mono →
      (s.model.windowFirst = false → exec .sessionExpiry s = .next (evaluated (closed paidUp)))
      ∧ (s.model.windowFirst = true → exec .sessionExpiry s = .next (closed (evaluated paidUp))))
    ∧ (running s = true → s.lock.state = .lockout s.time.mono →
      (s.model.windowFirst = false → exec .lockoutExpiry s = .next (evaluated (freed paidUp)))
      ∧ (s.model.windowFirst = true → exec .lockoutExpiry s = .next (freed (evaluated paidUp))))
    ∧ (running s = false ∨ s.lock.state ≠ .unlocked s.time.mono → exec .sessionExpiry s = .next s)
    ∧ (running s = false ∨ s.lock.state ≠ .lockout s.time.mono → exec .lockoutExpiry s = .next s)

/-! ### Purchases -/

/-- The checks of PURCHASE in their order: the first that fails gives the result, no purchase is created,
no record posted and the counter kept; from check 5 on the billing day has been evaluated. The spend limit
refuses a limit of 0, and a first charge that the limit does not leave. (The unit taken: log 6.) -/
def Obligations.PurchaseIsRefusedInOrder : Prop :=
  (∀ (s : State) (q : StampedUnit) (label : Nat), LocalTakes s (.command .purchase) q →
    readPurchase q.unit.payload = some label →
    let p := afterLocal s
    let e := evalBillingDay p
    let refused (code : ResultCode) (t : State) : Prop :=
      exec .purchase s = .next (answered q code [] t)
    (p.ret.tenancy = .closing → refused .closing p)
    ∧ (p.ret.tenancy ≠ .closing → p.emergency ≠ none → refused .override p)
    ∧ (p.ret.tenancy ≠ .closing → p.emergency = none → p.time.building = none → refused .timeUnset p)
    ∧ (p.emergency = none → p.time.building ≠ none → p.ret.tenancy = .vacant → refused .vacant p)
    ∧ (p.emergency = none → p.time.building ≠ none → p.ret.tenancy = .occupied →
      (serviceRow e label = none → refused .noService e)
      ∧ ∀ r, serviceRow e label = some r →
        (r.access ≠ .film → refused .notFilm e)
        ∧ (r.access = .film →
          (isBought e r.film = true → refused .already e)
          ∧ (isBought e r.film = false →
            (lockTest e r.rating = .locked → refused .locked e)
            ∧ (lockTest e r.rating = .barred → refused .barred e)
            ∧ (lockTest e r.rating = .outOfWindow → refused .outOfWindow e)
            ∧ (lockTest e r.rating = .pass →
              (8 ≤ e.ret.purchases.length → refused .purchasesFull e)
              ∧ (e.ret.purchases.length < 8 →
                (32 < e.ret.records.length + e.ret.purchases.length + 1 → refused .billingFull e)
                ∧ (e.ret.records.length + e.ret.purchases.length + 1 ≤ 32 →
                  overLimit e r = true → refused .limit e)))))))
  ∧ (∀ (s : State) (r : ServiceRow) (g : RoomRecord),
    s.ret.tenancy = .occupied → s.ret.active = some g →
    let charge := (stepAt (tariffOf s r) 0).charge
    let first := if r.ceiling = 0 then charge else min charge r.ceiling
    (overLimit s r = true ↔ g.spendLimit = 0 ∨ g.spendLimit < s.ret.spentToday + first ∧ 0 < first))

/-- A PURCHASE that passes every check: the purchase joins the tail of the table with the counter's number,
the row's film, the copied steps (31 followed by 0, a vacant one as R54 says) and ceiling, a total of 0, in
GRACE, or RUNNING with its first charge made at once where the film has no grace. The answer is DONE with
the number. The counter advances by one, 255 followed by 1, and on past each number that a live purchase
holds, the new one included. (The unit taken: log 6.) -/
def Obligations.PurchaseIsAccepted : Prop :=
  (∀ (s : State) (q : StampedUnit) (label : Nat) (r : ServiceRow),
    LocalTakes s (.command .purchase) q → readPurchase q.unit.payload = some label →
    let p := afterLocal s
    let e := evalBillingDay p
    p.ret.tenancy = .occupied → p.emergency = none → p.time.building ≠ none →
    serviceRow e label = some r → r.access = .film → isBought e r.film = false →
    lockTest e r.rating = .pass → e.ret.purchases.length < 8 →
    e.ret.records.length + e.ret.purchases.length + 1 ≤ 32 → overLimit e r = false →
    let n := e.ret.nextPurchase
    let held := e.ret.purchases.map (·.number) ++ [n]
    let advance (x : Nat) : Nat := if x = 255 then 1 else x + 1
    let opened (state : PurchaseState) (next : Nat) : State :=
      { e with
        ret := { e.ret with
          purchases := e.ret.purchases ++
            [{ number := n
               film := r.film
               state := state
               steps := tariffOf e r
               total := 0
               ceiling := if r.ceiling = 0 then none else some r.ceiling }]
          nextPurchase := next } }
    ∃ next moves,
      1 ≤ moves ∧ next = advance^[moves] n ∧ next ∉ held
      ∧ (∀ j, 1 ≤ j → j < moves → advance^[j] n ∈ held)
      ∧ (0 < r.grace → exec .purchase s = .next
        (answered q .done [BitVec.ofNat 8 n, 0, 0, 0] (opened (.grace r.grace 0 3600) next)))
      ∧ (r.grace = 0 → exec .purchase s = .next
        (answered q .done [BitVec.ofNat 8 n, 0, 0, 0]
          (beginRepetition n 0 0
            (opened (.running 0 0 (stepAt (tariffOf e r) 0).duration) next)))))
  ∧ (∀ (s : State) (r : ServiceRow),
    tariffOf s r = (List.range r.tariffCount).map fun i =>
      let image := s.tar.active.getD ((r.tariffStart + i) % 32) (List.replicate 12 0)
      if image.all (fun b => decide (b = 0)) then
        { duration := 1, measure := .elapsed, charge := 0, repeats := 0, increment := 0 }
      else
        { duration := field image 0 4
          measure := if byteAt image 4 = 2 then .viewed else .elapsed
          charge := field image 6 3
          repeats := (byteAt image 5).toNat
          increment := field image 9 2 })

/-- PURCHASE VOID ends the live purchase of its film, and without one does nothing. The end of a purchase
posts its END record, takes it from the table, latches PURCHASE ENDED, flushes the slots of its film and
leaves no passed unit queued that the room may no longer see. (The unit taken: logs 6 and 15.) -/
def Obligations.PurchaseEnds : Prop :=
  (∀ (s : State) (q : StampedUnit) (film : Nat), FeedTakes s .purchaseVoid q →
    readNumber q.unit.payload = some film →
    let p := afterFeed s
    (∀ x, p.ret.purchases.find? (fun x => decide (x.film = film)) = some x →
      exec .purchaseVoid s = .next (endPurchase x.number .void p))
    ∧ ((∀ x ∈ p.ret.purchases, x.film ≠ film) → exec .purchaseVoid s = .next p))
  ∧ (∀ (s : State) (n : Nat) (reason : EndReason) (p : Purchase), purchaseOf s n = some p →
    let posted := post (.ended reason p.total) n p.film s
    let t := endPurchase n reason s
    t.ret = { posted.ret with purchases := s.ret.purchases.eraseP (fun x => x.number == n) }
    ∧ t.offer = posted.offer
    ∧ t.alerts = posted.alerts.latch .purchaseEnded
    ∧ SlotsFlushed
      (fun k => ∀ row, serviceRow s k.label = some row → row.access = .film → row.film ≠ p.film)
      s.keys.slots t.keys.slots
    ∧ t.outA = s.outA.purged (admissionOf t) ∧ t.outB = s.outB.purged (admissionOf t)
    ∧ t = { s with
        ret := t.ret
        offer := t.offer
        alerts := t.alerts
        keys := { s.keys with slots := t.keys.slots }
        outA := t.outA
        outB := t.outB })

/-- The charge of a beginning repetition: charge plus k increments, clamped by what the ceiling leaves. The
purchase becomes RUNNING in its place of the table, with the step's whole duration.
Nothing is posted for 0; an amount above the allowance ends the purchase with LIMIT; one that finds no
place beside the END records ends it with QUEUE; otherwise a CHARGE record is posted and spent-today and
the total rise. (Without a guest nothing is allowed: the model's choice for states that no rule reaches,
log 23.) -/
def Obligations.ChargesAreTested : Prop :=
  ∀ (s : State) (n i position k : Nat) (p : Purchase), s.ret.purchases[i]? = some p → p.number = n →
    (∀ j y, j < i → s.ret.purchases[j]? = some y → y.number ≠ n) → p.total ≤ 99999999 →
    let step := stepAt p.steps position
    let raw := step.charge + k * step.increment
    let a := match p.ceiling with
      | some c => if c ≤ p.total then 0 else min raw (c - p.total)
      | none => raw
    let allowed := match guest s with
      | some g => g.spendLimit - s.ret.spentToday
      | none => 0
    let begun (total : Nat) : State :=
      { s with
        ret := { s.ret with
          purchases := s.ret.purchases.set i
            { p with state := .running position k step.duration, total := total } } }
    let t := beginRepetition n position k s
    (a = 0 → t = begun p.total)
    ∧ (0 < a → allowed < a → t = endPurchase n .limit s)
    ∧ (0 < a → a ≤ allowed → 32 < s.ret.records.length + s.ret.purchases.length + 1 →
      t = endPurchase n .queue s)
    ∧ (0 < a → a ≤ allowed → s.ret.records.length + s.ret.purchases.length + 1 ≤ 32 →
      let charged := begun (min (p.total + a) 99999999)
      t = post (.charge a position k) n p.film
        { charged with ret := { charged.ret with spentToday := s.ret.spentToday + a } })

/-- The meter on a second event: what becomes of one live purchase in GRACE and in RUNNING, in its place of
the table; and the rows
GRACE_USED_UP, GRACE_LAPSE and STEP_REMAINING_END, with which the meter takes the second event it still
owes (log 5): it evaluates the billing day, takes the live purchases oldest first, each viewed or not as
the flags and selections then stand, and clears both viewed flags. -/
def Obligations.MeterTakesTheSecond : Prop :=
  (∀ (s : State) (n i : Nat) (viewed : Bool) (p : Purchase), s.ret.purchases[i]? = some p → p.number = n →
    (∀ j y, j < i → s.ret.purchases[j]? = some y → y.number ≠ n) →
    let changed (state : PurchaseState) : State :=
      { s with ret := { s.ret with purchases := s.ret.purchases.set i { p with state := state } } }
    (∀ needed seen lapse, p.state = .grace needed seen lapse →
      (viewed = true → seen + 1 = needed → meterPurchase n viewed s = beginRepetition n 0 0 s)
      ∧ (viewed = true → seen + 1 ≠ needed →
        meterPurchase n viewed s = changed (.grace needed (seen + 1) lapse))
      ∧ (viewed = false → lapse ≤ 1 → meterPurchase n viewed s = endPurchase n .lapsed s)
      ∧ (viewed = false → 1 < lapse →
        meterPurchase n viewed s = changed (.grace needed seen (lapse - 1))))
    ∧ (∀ position k remaining, p.state = .running position k remaining → 1 ≤ remaining →
      let step := stepAt p.steps position
      let counts : Prop := step.measure = .elapsed ∨ viewed = true
      (¬counts → meterPurchase n viewed s = s)
      ∧ (counts → 1 < remaining →
        meterPurchase n viewed s = changed (.running position k (remaining - 1)))
      ∧ (counts → remaining = 1 → k < step.repeats →
        meterPurchase n viewed s = beginRepetition n position (k + 1) s)
      ∧ (counts → remaining = 1 → step.repeats ≤ k → position + 1 < p.steps.length →
        meterPurchase n viewed s = beginRepetition n (position + 1) 0 s)
      ∧ (counts → remaining = 1 → step.repeats ≤ k → p.steps.length ≤ position + 1 →
        meterPurchase n viewed s = endPurchase n .complete s)))
  ∧ (∀ (s : State) (film : Nat), (isViewed s film = true ↔
    ∃ out, (out = s.outA ∨ out = s.outB) ∧ out.viewed = true
      ∧ ∃ r, serviceRow s out.selected = some r ∧ r.access = .film ∧ r.film = film))
  ∧ (∀ s : State, running s = true → .meter ∈ s.model.due → s.emergency = none →
    let e := evalBillingDay { s with model := { s.model with due := s.model.due.erase .meter } }
    let taken : Host.Outcome State Fault Refusal := .next (clearViewed
      (e.ret.purchases.foldl (fun u p => meterPurchase p.number (isViewed e p.film) u) e))
    ∀ p ∈ s.ret.purchases,
      (∀ needed seen lapse, p.state = .grace needed seen lapse → isViewed s p.film = true →
        seen + 1 = needed → exec .graceUsedUp s = taken)
      ∧ (∀ needed seen lapse, p.state = .grace needed seen lapse → isViewed s p.film = false →
        lapse ≤ 1 → exec .graceLapse s = taken)
      ∧ (∀ position k remaining, p.state = .running position k remaining → remaining ≤ 1 →
        ((stepAt p.steps position).measure = .elapsed ∨ isViewed s p.film = true) →
        exec .stepRemainingEnd s = taken))
  ∧ (∀ s : State, .meter ∉ s.model.due → exec .graceUsedUp s = .next s ∧ exec .graceLapse s = .next s
    ∧ exec .stepRemainingEnd s = .next s)

/-- While the emergency override is active, a second event leaves every live purchase and every billing
record as it was. -/
def Obligations.EmergencyHoldsThePurchases : Prop :=
  ∀ (s : State), s.emergency ≠ none → ∃ t, exec .secondEvent s = .next t
    ∧ t.ret.purchases = s.ret.purchases ∧ t.ret.records = s.ret.records
    ∧ t.ret.nextSerial = s.ret.nextSerial

/-! ### Billing -/

/-- A posted record joins the tail with the next serial, the room number, the tenancy id of the active
record and building time, unoffered; the next serial advances; a position that named none names it; and
BILLING HIGH latches on a rising crossing under RISING. -/
def Obligations.PostFillsTheRecord : Prop :=
  ∀ (s : State) (entry : BillingEntry) (number film : Nat) (r : RoomRecord), s.ret.active = some r →
    let before := s.ret.records.length
    ∃ record : BillingRecord,
      post entry number film s =
        { s with
          ret := { s.ret with
            records := s.ret.records ++ [record]
            nextSerial := if s.ret.nextSerial = 65535 then 1 else s.ret.nextSerial + 1 }
          offer := some (s.offer.getD s.ret.nextSerial)
          alerts := s.alerts.latchIf
            (decide (s.alerts.sense = .rising) && decide (before < s.install.billingHigh)
              && decide (s.install.billingHigh ≤ before + 1)) .billingHigh }
      ∧ record.serial = s.ret.nextSerial ∧ record.entry = entry ∧ record.room = s.install.room
      ∧ record.tenancyId = r.tenancyId ∧ record.purchase = number ∧ record.film = film
      ∧ record.offered = false
      ∧ (s.time.building = none →
        record.day = 0 ∧ record.second = 0 ∧ record.timeUnknown = true)
      ∧ (∀ b, s.time.building = some b →
        record.day = b.day.toNat ∧ record.second = b.second ∧ record.timeUnknown = false)

/-- BILLING RECEIPT removes the record of its serial and every older one, moves a position that named a
removed record to the oldest that remains, tests BILLING HIGH once, and has the completion condition
tested. A serial that is not in the queue is ignored. (The unit taken: logs 6 and 15.) -/
def Obligations.BillingReceiptReleasesRecords : Prop :=
  ∀ (s : State) (q : StampedUnit) (serial : Nat), FeedTakes s .billingReceipt q →
    readNumber q.unit.payload = some serial →
    let p := afterFeed s
    (∀ older record newer, p.ret.records = older ++ record :: newer → record.serial = serial →
      (∀ x ∈ older, x.serial ≠ serial) →
      exec .billingReceipt s = .next (testCompletion
        { p with
          ret := { p.ret with records := newer }
          offer := p.offer.bind fun k =>
            if newer.any (fun x => decide (x.serial = k)) then some k else newer.head?.map (·.serial)
          alerts := p.alerts.latchIf
            (decide (p.alerts.sense = .falling)
              && decide (p.install.billingHigh ≤ p.ret.records.length)
              && decide (newer.length < p.install.billingHigh)) .billingHigh }))
    ∧ ((∀ x ∈ p.ret.records, x.serial ≠ serial) → exec .billingReceipt s = .next p)

/-- BILLING POLL moves the offer position to the record of its serial, or to the oldest record, or to none
in an empty queue, and does nothing else. A serial of 0 and a nonzero must-be-zero byte are form faults.
(The unit taken: logs 6 and 15.) -/
def Obligations.BillingPollMovesThePosition : Prop :=
  ∀ (s : State) (q : StampedUnit), FeedTakes s .billingPoll q →
    let p := afterFeed s
    (∀ serial, readNumber q.unit.payload = some serial →
      (∀ x ∈ p.ret.records, x.serial = serial → exec .billingPoll s = .next
        { p with offer := some serial })
      ∧ ((∀ x ∈ p.ret.records, x.serial ≠ serial) → exec .billingPoll s = .next
        { p with offer := p.ret.records.head?.map (·.serial) }))
    ∧ ((field (directiveBody q.unit.payload) 0 2 = 0
        ∨ byteAt (directiveBody q.unit.payload) 2 ≠ 0 ∨ byteAt (directiveBody q.unit.payload) 3 ≠ 0) →
      exec .billingPoll s = .next { p with alerts := p.alerts.latch .directiveFault })

/-- The return port, in every phase of a live part (that it sends in STARTING is DEDUCED and unsafe there,
log 25): with no unit in progress and the line ready, the oldest result is begun before any billing unit of
the record at the offer position; a unit has the header of its label and carries the label's counter, which
then advances. Its end frees the port, takes the result from the queue, or gives the Billing Queue the
notice of its serial, which marks the record, moves the position past it, and has the completion condition
tested (not in STARTING, log 16). The byte at the port is that of the place within the unit, and the
unit-start indication marks the first byte, 0xB5, of each unit and no other. While a unit is in progress
none begins; a BEGIN with nothing to send, and an END of the other kind or with nothing in progress, only
sample the line (log 1). Where the line is not ready, a unit holds its place and none begins. The level
sampled is the command's operand (log 7); a unit's bytes leave between its BEGIN and its END, the last with
the END (log 8). The codes of the results are 0 to 17 and those of the end reasons 1 to 7, by name. -/
def Obligations.ReturnPortSendsUnits : Prop :=
  (∀ s : State, live s = true →
    let sampled : State := { s with port := { s.port with ready := true } }
    (∀ r rest, s.results = r :: rest → s.port.inProgress = none →
      exec (.resultUnitBegin true) s = .next
        { s with
          port := { s.port with
            ready := true
            resultSeq := s.port.resultSeq + 1
            inProgress := some
              { kind := .result
                bytes := (returnUnit 4093 s.port.resultSeq (resultPayload r)).bytes
                sent := 0 } } })
    ∧ (s.results = [] ∨ s.port.inProgress ≠ none → exec (.resultUnitBegin true) s = .next sampled)
    ∧ (∀ r serial, s.results = [] → s.port.inProgress = none → s.offer = some serial →
      s.ret.records.find? (fun x => x.serial == serial) = some r →
      exec (.billingUnitBegin true) s = .next
        { s with
          port := { s.port with
            ready := true
            billingSeq := s.port.billingSeq + 1
            inProgress := some
              { kind := .billing r.serial
                bytes := (returnUnit 4092 s.port.billingSeq (billingPayload r)).bytes
                sent := 0 } } })
    ∧ (s.results ≠ [] ∨ s.port.inProgress ≠ none ∨ s.offer = none
        ∨ (∃ serial, s.offer = some serial ∧ ∀ x ∈ s.ret.records, x.serial ≠ serial) →
      exec (.billingUnitBegin true) s = .next sampled)
    ∧ (∀ u, s.port.inProgress = some u → u.kind = .result →
      exec (.resultUnitEnd true) s = .next
        { s with port := { s.port with ready := true, inProgress := none }, results := s.results.tail })
    ∧ (∀ u serial, s.port.inProgress = some u → u.kind = .billing serial →
      let freed : State := { s with port := { s.port with ready := true, inProgress := none } }
      (∀ x ∈ s.ret.records, x.serial = serial →
        exec (.billingUnitEnd true) s = .next (testCompletion
          { freed with
            ret := { s.ret with
              records := s.ret.records.map fun x =>
                if x.serial = serial then { x with offered := true } else x }
            offer := if s.offer = some serial then
                (newerThan serial s.ret.records).head?.map (·.serial)
              else s.offer }))
      ∧ ((∀ x ∈ s.ret.records, x.serial ≠ serial) → exec (.billingUnitEnd true) s = .next freed))
    ∧ ((∀ u, s.port.inProgress = some u → u.kind ≠ .result) →
      exec (.resultUnitEnd true) s = .next sampled)
    ∧ ((∀ u serial, s.port.inProgress = some u → u.kind ≠ .billing serial) →
      exec (.billingUnitEnd true) s = .next sampled)
    ∧ (let held : Host.Outcome State Fault Refusal := .next
        { s with port := { s.port with ready := false } }
      exec (.resultUnitBegin false) s = held ∧ exec (.resultUnitEnd false) s = held
      ∧ exec (.billingUnitBegin false) s = held ∧ exec (.billingUnitEnd false) s = held))
  ∧ (∀ s : State, returnByte s = s.port.inProgress.bind fun u =>
    (u.bytes[u.sent]?).map fun b => { byte := b, unitStart := decide (u.sent = 0) })
  ∧ (∀ s t : State, s.port.inProgress = none → t.port.inProgress ≠ none →
    (exec (.resultUnitBegin true) s = .next t ∨ exec (.billingUnitBegin true) s = .next t) →
    returnByte t = some { byte := 0xB5, unitStart := true })
  ∧ (∀ (label : BitVec 12) (sequence : BitVec 4) (payload : List Byte),
    returnUnit label sequence payload =
      { label := label, phase := .clear, start := false, spare2 := false, sequence := sequence,
        spare3 := 0, payload := (payload ++ List.replicate 124 0).take 124 })
  ∧ (∀ r : Result, resultPayload r =
    [r.tag, r.kind, r.code.code, BitVec.ofNat 8 r.body.length] ++ r.body)
  ∧ (∀ r : BillingRecord,
    let flags := (if r.timeUnknown then 1 else 0) + 2 * (if r.offered then 1 else 0)
    let row (kind reason position repetition amount total : Nat) : List Byte := fieldBytes
      [(2, r.serial), (1, kind), (1, flags), (2, r.room), (2, r.tenancyId), (1, r.purchase), (1, reason),
       (2, r.film), (1, position), (1, repetition), (4, amount), (4, total), (2, r.day), (4, r.second)]
    (∀ amount position repetition, r.entry = .charge amount position repetition →
      billingPayload r = row 1 0 position repetition amount 0)
    ∧ (∀ reason total, r.entry = .ended reason total → billingPayload r = row 2 reason.code 0 0 0 total))
  ∧ [ResultCode.done, .badForm, .noService, .notFilm, .already, .purchasesFull, .billingFull, .limit, .locked,
      .barred, .outOfWindow, .wrongPin, .lockedOut, .noPin, .vacant, .timeUnset, .override,
      .closing].map (·.code.toNat) = List.range 18
  ∧ [EndReason.complete, .lapsed, .limit, .queue, .void, .tenancy, .power].map (·.code) = [1, 2, 3, 4, 5, 6, 7]

/-! ### The gate and the outputs -/

/-- SELECT: refused OVERRIDE under the emergency override and BAD FORM above 4,079, with no change;
otherwise the output's queue is discarded, it selects the label and waits, or is IDLE with label 0, and the
references of the label and of labels no longer selected are removed. The other output stands. (A label
that leaves this output while the other still selects it keeps its reference: DEDUCED, log 31. The unit
taken: log 6.) -/
def Obligations.SelectGivesAnOutputItsLabel : Prop :=
  ∀ (s : State) (q : StampedUnit) (o : OutputId) (label : Nat), LocalTakes s (.command .select) q →
    readSelect q.unit.payload = some (o, label) →
    let p := afterLocal s
    (p.emergency ≠ none → exec .select s = .next (answered q .override [] p))
    ∧ (p.emergency = none → 4079 < label → exec .select s = .next (answered q .badForm [] p))
    ∧ (p.emergency = none → label ≤ 4079 →
      let given : Output :=
        { output p o with
          selected := label
          state := if label = 0 then .idle else .waiting
          entryWait := true
          last := if label ≠ 0 ∧ serviceRow p label = none then .noService else .none
          queue := [] }
      let t := withOutput o given p
      exec .select s = .next (answered q .done []
        { t with
          merge := { t.merge with
            refs := t.merge.refs.filter fun r =>
              decide (r.label ≠ label) && isSelected t r.label } }))

/-- EMERGENCY ON of a label with an OPEN row makes both outputs show it from empty queues, saves their
selections where the override begins, and latches EMERGENCY; a repeat does nothing; a label without an
OPEN row gives DIRECTIVE FAULT. EMERGENCY OFF gives both outputs their saved selections back, with NO SERVICE
where the restored label has no row (label 0 has none, R52), and outside the override does nothing. (The unit taken: logs 6 and 15.) -/
def Obligations.EmergencyTakesBothOutputs : Prop :=
  (∀ (s : State) (q : StampedUnit) (label : Nat), FeedTakes s .emergencyOn q →
    readEmergencyOn q.unit.payload = some label →
    let p := afterFeed s
    ((∀ r, serviceRow p label = some r → r.access ≠ .openToAll) →
      exec .emergencyOn s = .next { p with alerts := p.alerts.latch .directiveFault })
    ∧ (∀ r, serviceRow p label = some r → r.access = .openToAll →
      (p.emergency = some label → exec .emergencyOn s = .next p)
      ∧ (p.emergency ≠ some label →
        let shown (out : Output) : Output :=
          { out with
            selected := label
            saved := if p.emergency = none then out.selected else out.saved
            state := .waiting
            entryWait := true
            last := .none
            queue := [] }
        exec .emergencyOn s = .next
          { p with
            outA := shown p.outA
            outB := shown p.outB
            emergency := some label
            alerts := p.alerts.latchIf p.emergency.isNone .emergency
            merge := { p.merge with refs := [] } })))
  ∧ (∀ (s : State) (q : StampedUnit), FeedTakes s .emergencyOff q →
    readEmergencyOff q.unit.payload = some () →
    let p := afterFeed s
    (p.emergency = none → exec .emergencyOff s = .next p)
    ∧ (p.emergency ≠ none →
      let restored (out : Output) : Output :=
        { out with
          selected := out.saved
          saved := 0
          state := if out.saved = 0 then .idle else .waiting
          entryWait := true
          last := if serviceRow p out.saved = none then .noService else .none
          queue := [] }
      exec .emergencyOff s = .next
        { p with
          outA := restored p.outA
          outB := restored p.outB
          emergency := none
          merge := { p.merge with refs := [] } }))

/-- An Output Stage of a live part: with no unit in transfer and its line ready it begins the oldest unit,
which leaves the queue, 128 bytes or, with the trailer option ON, followed by its stamp and verdict; the
unit's end frees the stage; while the line is not ready none begins and a unit in transfer holds its place.
The byte at the output is that of the place within the unit, and the unit-start indication marks the first
byte, 0xB5, of each unit and no other. The level sampled is the command's operand (the model's choice, log
7); a unit's bytes leave between its BEGIN and its END, the last with the END (the model's choice, log 8).
-/
def Obligations.OutputStageSendsUnits : Prop :=
  ∀ (s : State) (o : OutputId), live s = true →
    let out := output s o
    (∀ x rest, out.queue = x :: rest → out.transfer = none →
      exec (.outputUnitBegin o true) s = .next (withOutput o
        { out with
          ready := true
          queue := rest
          transfer := some
            { bytes := if (match o with
                | .a => s.install.trailerA
                | .b => s.install.trailerB) then
              x.unit.bytes ++ (beBytes 3 x.stamp.toNat ++ [x.verdict.code])
            else x.unit.bytes
              sent := 0 } } s))
    ∧ (out.queue = [] ∨ out.transfer ≠ none →
      exec (.outputUnitBegin o true) s = .next (withOutput o { out with ready := true } s))
    ∧ exec (.outputUnitEnd o true) s = .next
      (withOutput o { out with ready := true, transfer := none } s)
    ∧ exec (.outputUnitBegin o false) s = .next (withOutput o { out with ready := false } s)
    ∧ exec (.outputUnitEnd o false) s = .next (withOutput o { out with ready := false } s)
    ∧ (outputByte s o = out.transfer.bind fun x =>
      (x.bytes[x.sent]?).map fun b => { byte := b, unitStart := decide (x.sent = 0) })
    ∧ (∀ t : State, out.transfer = none → (output t o).transfer ≠ none →
      exec (.outputUnitBegin o true) s = .next t →
      outputByte t o = some { byte := 0xB5, unitStart := true })

/-! ### Alerts -/

/-- ALERT SETUP gives the mask, the levels and the sense their values together and leaves the flags; ALERT
CLEAR clears the named flags but those whose condition holds, leaves the others, and answers with the set
latched after it. The conditions are those of the five level sources. (The unit taken: log 6.) -/
def Obligations.AlertCommandsTakeEffectWhole : Prop :=
  (∀ (s : State) (q : StampedUnit),
    let p := afterLocal s
    (∀ x, LocalTakes s (.command .alertSetup) q → readAlertSetup q.unit.payload = some x →
      exec .alertSetup s = .next (answered q .done []
        { p with alerts := { p.alerts with mask := x.mask, sense := x.sense, levels := x.levels } }))
    ∧ (∀ named : BitVec 16, LocalTakes s (.command .alertClear) q →
      readAlertClear q.unit.payload = some named →
      ∃ flags : BitVec 16,
        exec .alertClear s = .next (answered q .done (beBytes 4 flags.toNat)
          { p with alerts := { p.alerts with latched := flags } })
        ∧ ∀ src : AlertSource, flags.getLsbD src.code =
          (if named.getLsbD src.code then conditionHolds p src else p.alerts.latched.getLsbD src.code)))
  ∧ (∀ (s : State) (src : AlertSource), conditionHolds s src = true ↔
    (src = .insetShed ∧ s.merge.shed = .shedding)
    ∨ (src = .lockout ∧ ∃ e, s.lock.state = .lockout e)
    ∨ (src = .timeUnset ∧ s.time.building = none)
    ∨ (src = .installationFault ∧ s.install.fault = true)
    ∨ (src = .emergency ∧ s.emergency ≠ none))

/-- The alert line is asserted exactly while a latched source has a level above the mask level or level 7.
The level of EMERGENCY is 7; that of every other source is the entry at its code of the levels held.
With adjustable levels of 1 to 6, at mask level 7 only a latched EMERGENCY asserts it, and at mask level 0
any latched source does. -/
def Obligations.AlertLineFollowsTheFlags : Prop :=
  ∀ s : State,
    (alertLine s = true ↔ ∃ src, s.alerts.isLatched src = true
      ∧ (s.alerts.mask < s.alerts.level src ∨ s.alerts.level src = 7))
    ∧ s.alerts.level .emergency = 7
    ∧ (∀ src, src ≠ .emergency → src.code < s.alerts.levels.length →
      s.alerts.levels[src.code]? = some (s.alerts.level src))
    ∧ ((∀ n ∈ s.alerts.levels, 1 ≤ n ∧ n ≤ 6) →
      (s.alerts.mask = 7 → (alertLine s = true ↔ s.alerts.isLatched .emergency = true))
      ∧ (s.alerts.mask = 0 → (alertLine s = true ↔ ∃ src, s.alerts.isLatched src = true)))

/-! ### Formats -/

/-- The layout of the carriage unit: the part reads back what it writes, for every unit of 124 payload
bytes, and writes back what it reads, for every 128 bytes that begin with the sync. A number written in a
field of n bytes reads back as its residue, the first byte most significant. -/
def Obligations.UnitLayoutRoundTrip : Prop :=
  (∀ u : CarriageUnit, u.payload.length = 124 → unitOfBytes u.bytes = u ∧ u.bytes.length = 128)
  ∧ (∀ bytes : List Byte, bytes.length = 128 → bytes.head? = some 0xB5 →
    (unitOfBytes bytes).bytes = bytes)
  ∧ (∀ n v : Nat, (beBytes n v).length = n ∧ beNat (beBytes n v) = v % 256 ^ n)
  ∧ (∀ (b : Byte) (bytes : List Byte), beNat (b :: bytes) = b.toNat * 256 ^ bytes.length + beNat bytes)

/-! ### Invariants that every step keeps -/

/-- Every FIFO, buffer and queue stays within its capacity, a unit on the return port has 128 bytes, the
place within a unit in progress stays before its last byte, and there is at most one sequence reference for
each selected label and none for another. -/
def Obligations.StepKeepsCapacitiesAndReferences : Prop :=
  ∀ s t : State, WithinCapacity s → ReferencesSelected s → step s = .next t →
    WithinCapacity t ∧ ReferencesSelected t

/-- R139: records and live purchases together never exceed 32. -/
def Obligations.StepKeepsTheReservation : Prop :=
  ∀ s t : State, ReservationKept s → step s = .next t → ReservationKept t

/-- R36: the flag of a level source stays set for as long as its condition holds. R35: there are fifteen
levels, each 1 to 6, and the mask level is 0 to 7. -/
def Obligations.StepKeepsConditionsLatched : Prop :=
  ∀ s t : State, step s = .next t →
    (ConditionsLatched s → ConditionsLatched t) ∧ (LevelsKept s → LevelsKept t)

/-- R120, R167, R168: where the consumers of every event take it at once (log 5), no passed unit that the
room may not see now waits in a queue, and the window membership is up to date. -/
def Obligations.StepKeepsQueuesAdmitted : Prop :=
  ∀ s t : State, Prompt s → QueuesAdmitted s → step s = .next t → Prompt t ∧ QueuesAdmitted t

/-- R79: every LOADED slot satisfies the slot test. -/
def Obligations.StepKeepsSlotsEntitled : Prop :=
  ∀ s t : State, SlotsEntitled s → step s = .next t → SlotsEntitled t

/-- R112, R122: the lock is LOCKED whenever the tenancy is not OCCUPIED. -/
def Obligations.StepKeepsTheLockClosedWithoutGuest : Prop :=
  ∀ s t : State, LockedWithoutGuest s → step s = .next t → LockedWithoutGuest t

/-- R150: the records stand oldest first with consecutive serials. -/
def Obligations.StepKeepsSerialsConsecutive : Prop :=
  ∀ s t : State, SerialsConsecutive s → step s = .next t → SerialsConsecutive t

/-- R125, R127: at most 8 live purchases, no two of one film or one number, and none with the counter's
number. -/
def Obligations.StepKeepsPurchasesDistinct : Prop :=
  ∀ s t : State, PurchasesDistinct s → step s = .next t → PurchasesDistinct t
end

