-- ==== Sys2Proof/Laws/State.lean ====
section
/-!
SUPPORT. What each field of the part is after each shared update, so that no proof unfolds a record
update. Every lemma holds by rfl (those of `tick` in both of its cases); `f_x` says what
`f` leaves in the field `x`.
-/
namespace Sys2Proof.Machine

/-! ### `latch` -/

@[simp] theorem latch_power (src : AlertSource) (s : State) : (latch src s).power = s.power := rfl
@[simp] theorem latch_ret (src : AlertSource) (s : State) : (latch src s).ret = s.ret := rfl
@[simp] theorem latch_install (src : AlertSource) (s : State) :
    (latch src s).install = s.install :=
  rfl
@[simp] theorem latch_readSig (src : AlertSource) (s : State) :
    (latch src s).readSig = s.readSig :=
  rfl
@[simp] theorem latch_merge (src : AlertSource) (s : State) : (latch src s).merge = s.merge := rfl
@[simp] theorem latch_time (src : AlertSource) (s : State) : (latch src s).time = s.time := rfl
@[simp] theorem latch_results (src : AlertSource) (s : State) :
    (latch src s).results = s.results :=
  rfl
@[simp] theorem latch_port (src : AlertSource) (s : State) : (latch src s).port = s.port := rfl
@[simp] theorem latch_alerts (src : AlertSource) (s : State) :
    (latch src s).alerts = s.alerts.latch src :=
  rfl
@[simp] theorem latch_svc (src : AlertSource) (s : State) : (latch src s).svc = s.svc := rfl
@[simp] theorem latch_tar (src : AlertSource) (s : State) : (latch src s).tar = s.tar := rfl
@[simp] theorem latch_keys (src : AlertSource) (s : State) : (latch src s).keys = s.keys := rfl
@[simp] theorem latch_lock (src : AlertSource) (s : State) : (latch src s).lock = s.lock := rfl
@[simp] theorem latch_closing (src : AlertSource) (s : State) :
    (latch src s).closing = s.closing :=
  rfl
@[simp] theorem latch_outA (src : AlertSource) (s : State) : (latch src s).outA = s.outA := rfl
@[simp] theorem latch_outB (src : AlertSource) (s : State) : (latch src s).outB = s.outB := rfl
@[simp] theorem latch_emergency (src : AlertSource) (s : State) :
    (latch src s).emergency = s.emergency :=
  rfl
@[simp] theorem latch_offer (src : AlertSource) (s : State) : (latch src s).offer = s.offer := rfl
@[simp] theorem latch_model (src : AlertSource) (s : State) : (latch src s).model = s.model := rfl
@[simp] theorem latch_pending (src : AlertSource) (s : State) :
    (latch src s).pending = s.pending :=
  rfl

/-! ### `pushResult` -/

@[simp] theorem pushResult_power (r : Result) (s : State) : (pushResult r s).power = s.power := rfl
@[simp] theorem pushResult_ret (r : Result) (s : State) : (pushResult r s).ret = s.ret := rfl
@[simp] theorem pushResult_install (r : Result) (s : State) :
    (pushResult r s).install = s.install :=
  rfl
@[simp] theorem pushResult_readSig (r : Result) (s : State) :
    (pushResult r s).readSig = s.readSig :=
  rfl
@[simp] theorem pushResult_merge (r : Result) (s : State) : (pushResult r s).merge = s.merge := rfl
@[simp] theorem pushResult_time (r : Result) (s : State) : (pushResult r s).time = s.time := rfl
@[simp] theorem pushResult_results (r : Result) (s : State) :
    (pushResult r s).results = s.results ++ [r] :=
  rfl
@[simp] theorem pushResult_port (r : Result) (s : State) : (pushResult r s).port = s.port := rfl
@[simp] theorem pushResult_alerts (r : Result) (s : State) :
    (pushResult r s).alerts = s.alerts :=
  rfl
@[simp] theorem pushResult_svc (r : Result) (s : State) : (pushResult r s).svc = s.svc := rfl
@[simp] theorem pushResult_tar (r : Result) (s : State) : (pushResult r s).tar = s.tar := rfl
@[simp] theorem pushResult_keys (r : Result) (s : State) : (pushResult r s).keys = s.keys := rfl
@[simp] theorem pushResult_lock (r : Result) (s : State) : (pushResult r s).lock = s.lock := rfl
@[simp] theorem pushResult_closing (r : Result) (s : State) :
    (pushResult r s).closing = s.closing :=
  rfl
@[simp] theorem pushResult_outA (r : Result) (s : State) : (pushResult r s).outA = s.outA := rfl
@[simp] theorem pushResult_outB (r : Result) (s : State) : (pushResult r s).outB = s.outB := rfl
@[simp] theorem pushResult_emergency (r : Result) (s : State) :
    (pushResult r s).emergency = s.emergency :=
  rfl
@[simp] theorem pushResult_offer (r : Result) (s : State) : (pushResult r s).offer = s.offer := rfl
@[simp] theorem pushResult_model (r : Result) (s : State) : (pushResult r s).model = s.model := rfl
@[simp] theorem pushResult_pending (r : Result) (s : State) :
    (pushResult r s).pending = s.pending :=
  rfl

/-! ### `tookLocal` -/

@[simp] theorem tookLocal_power (s : State) : (tookLocal s).power = s.power := rfl
@[simp] theorem tookLocal_ret (s : State) : (tookLocal s).ret = s.ret := rfl
@[simp] theorem tookLocal_install (s : State) : (tookLocal s).install = s.install := rfl
@[simp] theorem tookLocal_readSig (s : State) : (tookLocal s).readSig = s.readSig := rfl
@[simp] theorem tookLocal_merge (s : State) :
    (tookLocal s).merge = { s.merge with localQ := s.merge.localQ.tail, pref := .feed } :=
  rfl
@[simp] theorem tookLocal_time (s : State) : (tookLocal s).time = s.time := rfl
@[simp] theorem tookLocal_results (s : State) : (tookLocal s).results = s.results := rfl
@[simp] theorem tookLocal_port (s : State) : (tookLocal s).port = s.port := rfl
@[simp] theorem tookLocal_alerts (s : State) : (tookLocal s).alerts = s.alerts := rfl
@[simp] theorem tookLocal_svc (s : State) : (tookLocal s).svc = s.svc := rfl
@[simp] theorem tookLocal_tar (s : State) : (tookLocal s).tar = s.tar := rfl
@[simp] theorem tookLocal_keys (s : State) : (tookLocal s).keys = s.keys := rfl
@[simp] theorem tookLocal_lock (s : State) : (tookLocal s).lock = s.lock := rfl
@[simp] theorem tookLocal_closing (s : State) : (tookLocal s).closing = s.closing := rfl
@[simp] theorem tookLocal_outA (s : State) : (tookLocal s).outA = s.outA := rfl
@[simp] theorem tookLocal_outB (s : State) : (tookLocal s).outB = s.outB := rfl
@[simp] theorem tookLocal_emergency (s : State) : (tookLocal s).emergency = s.emergency := rfl
@[simp] theorem tookLocal_offer (s : State) : (tookLocal s).offer = s.offer := rfl
@[simp] theorem tookLocal_model (s : State) : (tookLocal s).model = s.model := rfl
@[simp] theorem tookLocal_pending (s : State) : (tookLocal s).pending = s.pending := rfl

/-! ### `evalShed` -/

@[simp] theorem evalShed_power (s : State) : (evalShed s).power = s.power := rfl
@[simp] theorem evalShed_ret (s : State) : (evalShed s).ret = s.ret := rfl
@[simp] theorem evalShed_install (s : State) : (evalShed s).install = s.install := rfl
@[simp] theorem evalShed_readSig (s : State) : (evalShed s).readSig = s.readSig := rfl
@[simp] theorem evalShed_time (s : State) : (evalShed s).time = s.time := rfl
@[simp] theorem evalShed_results (s : State) : (evalShed s).results = s.results := rfl
@[simp] theorem evalShed_port (s : State) : (evalShed s).port = s.port := rfl
@[simp] theorem evalShed_alerts (s : State) :
    (evalShed s).alerts = s.alerts.latchIf (s.merge.shed == .normal && shedAfter s == .shedding) .insetShed :=
  rfl
@[simp] theorem evalShed_svc (s : State) : (evalShed s).svc = s.svc := rfl
@[simp] theorem evalShed_tar (s : State) : (evalShed s).tar = s.tar := rfl
@[simp] theorem evalShed_keys (s : State) : (evalShed s).keys = s.keys := rfl
@[simp] theorem evalShed_lock (s : State) : (evalShed s).lock = s.lock := rfl
@[simp] theorem evalShed_closing (s : State) : (evalShed s).closing = s.closing := rfl
@[simp] theorem evalShed_outA (s : State) : (evalShed s).outA = s.outA := rfl
@[simp] theorem evalShed_outB (s : State) :
    (evalShed s).outB = { s.outB with entryWait := s.outB.entryWait || shedEnds s } :=
  rfl
@[simp] theorem evalShed_emergency (s : State) : (evalShed s).emergency = s.emergency := rfl
@[simp] theorem evalShed_offer (s : State) : (evalShed s).offer = s.offer := rfl
@[simp] theorem evalShed_model (s : State) : (evalShed s).model = s.model := rfl
@[simp] theorem evalShed_pending (s : State) : (evalShed s).pending = s.pending := rfl

/-! ### `tookFeed` -/

@[simp] theorem tookFeed_power (s : State) : (tookFeed s).power = s.power := rfl
@[simp] theorem tookFeed_ret (s : State) : (tookFeed s).ret = s.ret := rfl
@[simp] theorem tookFeed_install (s : State) : (tookFeed s).install = s.install := rfl
@[simp] theorem tookFeed_readSig (s : State) : (tookFeed s).readSig = s.readSig := rfl
@[simp] theorem tookFeed_time (s : State) : (tookFeed s).time = s.time := rfl
@[simp] theorem tookFeed_results (s : State) : (tookFeed s).results = s.results := rfl
@[simp] theorem tookFeed_port (s : State) : (tookFeed s).port = s.port := rfl
@[simp] theorem tookFeed_svc (s : State) : (tookFeed s).svc = s.svc := rfl
@[simp] theorem tookFeed_tar (s : State) : (tookFeed s).tar = s.tar := rfl
@[simp] theorem tookFeed_keys (s : State) : (tookFeed s).keys = s.keys := rfl
@[simp] theorem tookFeed_lock (s : State) : (tookFeed s).lock = s.lock := rfl
@[simp] theorem tookFeed_closing (s : State) : (tookFeed s).closing = s.closing := rfl
@[simp] theorem tookFeed_outA (s : State) : (tookFeed s).outA = s.outA := rfl
@[simp] theorem tookFeed_emergency (s : State) : (tookFeed s).emergency = s.emergency := rfl
@[simp] theorem tookFeed_offer (s : State) : (tookFeed s).offer = s.offer := rfl
@[simp] theorem tookFeed_model (s : State) : (tookFeed s).model = s.model := rfl
@[simp] theorem tookFeed_pending (s : State) : (tookFeed s).pending = s.pending := rfl

/-! ### `withMachine` -/

@[simp] theorem withMachine_power (t : Table) (m : TableMachine) (s : State) :
    (withMachine t m s).power = s.power :=
  rfl
@[simp] theorem withMachine_ret (t : Table) (m : TableMachine) (s : State) :
    (withMachine t m s).ret = s.ret :=
  rfl
@[simp] theorem withMachine_install (t : Table) (m : TableMachine) (s : State) :
    (withMachine t m s).install = s.install :=
  rfl
@[simp] theorem withMachine_readSig (t : Table) (m : TableMachine) (s : State) :
    (withMachine t m s).readSig = s.readSig :=
  rfl
@[simp] theorem withMachine_merge (t : Table) (m : TableMachine) (s : State) :
    (withMachine t m s).merge = s.merge :=
  rfl
@[simp] theorem withMachine_time (t : Table) (m : TableMachine) (s : State) :
    (withMachine t m s).time = s.time :=
  rfl
@[simp] theorem withMachine_results (t : Table) (m : TableMachine) (s : State) :
    (withMachine t m s).results = s.results :=
  rfl
@[simp] theorem withMachine_port (t : Table) (m : TableMachine) (s : State) :
    (withMachine t m s).port = s.port :=
  rfl
@[simp] theorem withMachine_alerts (t : Table) (m : TableMachine) (s : State) :
    (withMachine t m s).alerts = s.alerts :=
  rfl
@[simp] theorem withMachine_svc (t : Table) (m : TableMachine) (s : State) :
    (withMachine t m s).svc = if t = .service then m else s.svc :=
  rfl
@[simp] theorem withMachine_tar (t : Table) (m : TableMachine) (s : State) :
    (withMachine t m s).tar = if t = .tariff then m else s.tar :=
  rfl
@[simp] theorem withMachine_keys (t : Table) (m : TableMachine) (s : State) :
    (withMachine t m s).keys = s.keys :=
  rfl
@[simp] theorem withMachine_lock (t : Table) (m : TableMachine) (s : State) :
    (withMachine t m s).lock = s.lock :=
  rfl
@[simp] theorem withMachine_closing (t : Table) (m : TableMachine) (s : State) :
    (withMachine t m s).closing = s.closing :=
  rfl
@[simp] theorem withMachine_outA (t : Table) (m : TableMachine) (s : State) :
    (withMachine t m s).outA = s.outA :=
  rfl
@[simp] theorem withMachine_outB (t : Table) (m : TableMachine) (s : State) :
    (withMachine t m s).outB = s.outB :=
  rfl
@[simp] theorem withMachine_emergency (t : Table) (m : TableMachine) (s : State) :
    (withMachine t m s).emergency = s.emergency :=
  rfl
@[simp] theorem withMachine_offer (t : Table) (m : TableMachine) (s : State) :
    (withMachine t m s).offer = s.offer :=
  rfl
@[simp] theorem withMachine_model (t : Table) (m : TableMachine) (s : State) :
    (withMachine t m s).model = s.model :=
  rfl
@[simp] theorem withMachine_pending (t : Table) (m : TableMachine) (s : State) :
    (withMachine t m s).pending = s.pending :=
  rfl

/-! ### `withOutput` -/

@[simp] theorem withOutput_power (o : OutputId) (out : Output) (s : State) :
    (withOutput o out s).power = s.power :=
  rfl
@[simp] theorem withOutput_ret (o : OutputId) (out : Output) (s : State) :
    (withOutput o out s).ret = s.ret :=
  rfl
@[simp] theorem withOutput_install (o : OutputId) (out : Output) (s : State) :
    (withOutput o out s).install = s.install :=
  rfl
@[simp] theorem withOutput_readSig (o : OutputId) (out : Output) (s : State) :
    (withOutput o out s).readSig = s.readSig :=
  rfl
@[simp] theorem withOutput_merge (o : OutputId) (out : Output) (s : State) :
    (withOutput o out s).merge = s.merge :=
  rfl
@[simp] theorem withOutput_time (o : OutputId) (out : Output) (s : State) :
    (withOutput o out s).time = s.time :=
  rfl
@[simp] theorem withOutput_results (o : OutputId) (out : Output) (s : State) :
    (withOutput o out s).results = s.results :=
  rfl
@[simp] theorem withOutput_port (o : OutputId) (out : Output) (s : State) :
    (withOutput o out s).port = s.port :=
  rfl
@[simp] theorem withOutput_alerts (o : OutputId) (out : Output) (s : State) :
    (withOutput o out s).alerts = s.alerts :=
  rfl
@[simp] theorem withOutput_svc (o : OutputId) (out : Output) (s : State) :
    (withOutput o out s).svc = s.svc :=
  rfl
@[simp] theorem withOutput_tar (o : OutputId) (out : Output) (s : State) :
    (withOutput o out s).tar = s.tar :=
  rfl
@[simp] theorem withOutput_keys (o : OutputId) (out : Output) (s : State) :
    (withOutput o out s).keys = s.keys :=
  rfl
@[simp] theorem withOutput_lock (o : OutputId) (out : Output) (s : State) :
    (withOutput o out s).lock = s.lock :=
  rfl
@[simp] theorem withOutput_closing (o : OutputId) (out : Output) (s : State) :
    (withOutput o out s).closing = s.closing :=
  rfl
@[simp] theorem withOutput_outA (o : OutputId) (out : Output) (s : State) :
    (withOutput o out s).outA = if o = .a then out else s.outA :=
  rfl
@[simp] theorem withOutput_outB (o : OutputId) (out : Output) (s : State) :
    (withOutput o out s).outB = if o = .b then out else s.outB :=
  rfl
@[simp] theorem withOutput_emergency (o : OutputId) (out : Output) (s : State) :
    (withOutput o out s).emergency = s.emergency :=
  rfl
@[simp] theorem withOutput_offer (o : OutputId) (out : Output) (s : State) :
    (withOutput o out s).offer = s.offer :=
  rfl
@[simp] theorem withOutput_model (o : OutputId) (out : Output) (s : State) :
    (withOutput o out s).model = s.model :=
  rfl
@[simp] theorem withOutput_pending (o : OutputId) (out : Output) (s : State) :
    (withOutput o out s).pending = s.pending :=
  rfl

/-! ### `dropReferences` -/

@[simp] theorem dropReferences_power (given : List Nat) (s : State) :
    (dropReferences given s).power = s.power :=
  rfl
@[simp] theorem dropReferences_ret (given : List Nat) (s : State) :
    (dropReferences given s).ret = s.ret :=
  rfl
@[simp] theorem dropReferences_install (given : List Nat) (s : State) :
    (dropReferences given s).install = s.install :=
  rfl
@[simp] theorem dropReferences_readSig (given : List Nat) (s : State) :
    (dropReferences given s).readSig = s.readSig :=
  rfl
@[simp] theorem dropReferences_merge (given : List Nat) (s : State) :
    (dropReferences given s).merge = { s.merge with refs := s.merge.refs.filter fun r => !given.contains r.label && isSelected s r.label } :=
  rfl
@[simp] theorem dropReferences_time (given : List Nat) (s : State) :
    (dropReferences given s).time = s.time :=
  rfl
@[simp] theorem dropReferences_results (given : List Nat) (s : State) :
    (dropReferences given s).results = s.results :=
  rfl
@[simp] theorem dropReferences_port (given : List Nat) (s : State) :
    (dropReferences given s).port = s.port :=
  rfl
@[simp] theorem dropReferences_alerts (given : List Nat) (s : State) :
    (dropReferences given s).alerts = s.alerts :=
  rfl
@[simp] theorem dropReferences_svc (given : List Nat) (s : State) :
    (dropReferences given s).svc = s.svc :=
  rfl
@[simp] theorem dropReferences_tar (given : List Nat) (s : State) :
    (dropReferences given s).tar = s.tar :=
  rfl
@[simp] theorem dropReferences_keys (given : List Nat) (s : State) :
    (dropReferences given s).keys = s.keys :=
  rfl
@[simp] theorem dropReferences_lock (given : List Nat) (s : State) :
    (dropReferences given s).lock = s.lock :=
  rfl
@[simp] theorem dropReferences_closing (given : List Nat) (s : State) :
    (dropReferences given s).closing = s.closing :=
  rfl
@[simp] theorem dropReferences_outA (given : List Nat) (s : State) :
    (dropReferences given s).outA = s.outA :=
  rfl
@[simp] theorem dropReferences_outB (given : List Nat) (s : State) :
    (dropReferences given s).outB = s.outB :=
  rfl
@[simp] theorem dropReferences_emergency (given : List Nat) (s : State) :
    (dropReferences given s).emergency = s.emergency :=
  rfl
@[simp] theorem dropReferences_offer (given : List Nat) (s : State) :
    (dropReferences given s).offer = s.offer :=
  rfl
@[simp] theorem dropReferences_model (given : List Nat) (s : State) :
    (dropReferences given s).model = s.model :=
  rfl
@[simp] theorem dropReferences_pending (given : List Nat) (s : State) :
    (dropReferences given s).pending = s.pending :=
  rfl

/-! ### `purge` -/

@[simp] theorem purge_power (s : State) : (purge s).power = s.power := rfl
@[simp] theorem purge_ret (s : State) : (purge s).ret = s.ret := rfl
@[simp] theorem purge_install (s : State) : (purge s).install = s.install := rfl
@[simp] theorem purge_readSig (s : State) : (purge s).readSig = s.readSig := rfl
@[simp] theorem purge_merge (s : State) : (purge s).merge = s.merge := rfl
@[simp] theorem purge_time (s : State) : (purge s).time = s.time := rfl
@[simp] theorem purge_results (s : State) : (purge s).results = s.results := rfl
@[simp] theorem purge_port (s : State) : (purge s).port = s.port := rfl
@[simp] theorem purge_alerts (s : State) : (purge s).alerts = s.alerts := rfl
@[simp] theorem purge_svc (s : State) : (purge s).svc = s.svc := rfl
@[simp] theorem purge_tar (s : State) : (purge s).tar = s.tar := rfl
@[simp] theorem purge_keys (s : State) : (purge s).keys = s.keys := rfl
@[simp] theorem purge_lock (s : State) : (purge s).lock = s.lock := rfl
@[simp] theorem purge_closing (s : State) : (purge s).closing = s.closing := rfl
@[simp] theorem purge_outA (s : State) : (purge s).outA = s.outA.purged (admissionOf s) := rfl
@[simp] theorem purge_outB (s : State) : (purge s).outB = s.outB.purged (admissionOf s) := rfl
@[simp] theorem purge_emergency (s : State) : (purge s).emergency = s.emergency := rfl
@[simp] theorem purge_offer (s : State) : (purge s).offer = s.offer := rfl
@[simp] theorem purge_model (s : State) : (purge s).model = s.model := rfl
@[simp] theorem purge_pending (s : State) : (purge s).pending = s.pending := rfl

/-! ### `flushKeys` -/

@[simp] theorem flushKeys_power (keep : KeySlot → Bool) (s : State) :
    (flushKeys keep s).power = s.power :=
  rfl
@[simp] theorem flushKeys_ret (keep : KeySlot → Bool) (s : State) :
    (flushKeys keep s).ret = s.ret :=
  rfl
@[simp] theorem flushKeys_install (keep : KeySlot → Bool) (s : State) :
    (flushKeys keep s).install = s.install :=
  rfl
@[simp] theorem flushKeys_readSig (keep : KeySlot → Bool) (s : State) :
    (flushKeys keep s).readSig = s.readSig :=
  rfl
@[simp] theorem flushKeys_merge (keep : KeySlot → Bool) (s : State) :
    (flushKeys keep s).merge = s.merge :=
  rfl
@[simp] theorem flushKeys_time (keep : KeySlot → Bool) (s : State) :
    (flushKeys keep s).time = s.time :=
  rfl
@[simp] theorem flushKeys_results (keep : KeySlot → Bool) (s : State) :
    (flushKeys keep s).results = s.results :=
  rfl
@[simp] theorem flushKeys_port (keep : KeySlot → Bool) (s : State) :
    (flushKeys keep s).port = s.port :=
  rfl
@[simp] theorem flushKeys_alerts (keep : KeySlot → Bool) (s : State) :
    (flushKeys keep s).alerts = s.alerts :=
  rfl
@[simp] theorem flushKeys_svc (keep : KeySlot → Bool) (s : State) :
    (flushKeys keep s).svc = s.svc :=
  rfl
@[simp] theorem flushKeys_tar (keep : KeySlot → Bool) (s : State) :
    (flushKeys keep s).tar = s.tar :=
  rfl
@[simp] theorem flushKeys_keys (keep : KeySlot → Bool) (s : State) :
    (flushKeys keep s).keys = { s.keys with slots := flushSlots keep s.keys.slots } :=
  rfl
@[simp] theorem flushKeys_lock (keep : KeySlot → Bool) (s : State) :
    (flushKeys keep s).lock = s.lock :=
  rfl
@[simp] theorem flushKeys_closing (keep : KeySlot → Bool) (s : State) :
    (flushKeys keep s).closing = s.closing :=
  rfl
@[simp] theorem flushKeys_outA (keep : KeySlot → Bool) (s : State) :
    (flushKeys keep s).outA = s.outA :=
  rfl
@[simp] theorem flushKeys_outB (keep : KeySlot → Bool) (s : State) :
    (flushKeys keep s).outB = s.outB :=
  rfl
@[simp] theorem flushKeys_emergency (keep : KeySlot → Bool) (s : State) :
    (flushKeys keep s).emergency = s.emergency :=
  rfl
@[simp] theorem flushKeys_offer (keep : KeySlot → Bool) (s : State) :
    (flushKeys keep s).offer = s.offer :=
  rfl
@[simp] theorem flushKeys_model (keep : KeySlot → Bool) (s : State) :
    (flushKeys keep s).model = s.model :=
  rfl
@[simp] theorem flushKeys_pending (keep : KeySlot → Bool) (s : State) :
    (flushKeys keep s).pending = s.pending :=
  rfl

/-! ### `flushAtClosing` -/

@[simp] theorem flushAtClosing_power (s : State) : (flushAtClosing s).power = s.power := rfl
@[simp] theorem flushAtClosing_ret (s : State) : (flushAtClosing s).ret = s.ret := rfl
@[simp] theorem flushAtClosing_install (s : State) : (flushAtClosing s).install = s.install := rfl
@[simp] theorem flushAtClosing_readSig (s : State) : (flushAtClosing s).readSig = s.readSig := rfl
@[simp] theorem flushAtClosing_merge (s : State) : (flushAtClosing s).merge = s.merge := rfl
@[simp] theorem flushAtClosing_time (s : State) : (flushAtClosing s).time = s.time := rfl
@[simp] theorem flushAtClosing_results (s : State) : (flushAtClosing s).results = s.results := rfl
@[simp] theorem flushAtClosing_port (s : State) : (flushAtClosing s).port = s.port := rfl
@[simp] theorem flushAtClosing_alerts (s : State) : (flushAtClosing s).alerts = s.alerts := rfl
@[simp] theorem flushAtClosing_svc (s : State) : (flushAtClosing s).svc = s.svc := rfl
@[simp] theorem flushAtClosing_tar (s : State) : (flushAtClosing s).tar = s.tar := rfl
@[simp] theorem flushAtClosing_keys (s : State) :
    (flushAtClosing s).keys = { s.keys with slots := flushSlots (·.house) s.keys.slots } :=
  rfl
@[simp] theorem flushAtClosing_lock (s : State) : (flushAtClosing s).lock = s.lock := rfl
@[simp] theorem flushAtClosing_closing (s : State) : (flushAtClosing s).closing = s.closing := rfl
@[simp] theorem flushAtClosing_outA (s : State) : (flushAtClosing s).outA = s.outA := rfl
@[simp] theorem flushAtClosing_outB (s : State) : (flushAtClosing s).outB = s.outB := rfl
@[simp] theorem flushAtClosing_emergency (s : State) :
    (flushAtClosing s).emergency = s.emergency :=
  rfl
@[simp] theorem flushAtClosing_offer (s : State) : (flushAtClosing s).offer = s.offer := rfl
@[simp] theorem flushAtClosing_model (s : State) : (flushAtClosing s).model = s.model := rfl
@[simp] theorem flushAtClosing_pending (s : State) : (flushAtClosing s).pending = s.pending := rfl

/-! ### `post` -/

@[simp] theorem post_power (e : BillingEntry) (n f : Nat) (s : State) :
    (post e n f s).power = s.power :=
  rfl
@[simp] theorem post_install (e : BillingEntry) (n f : Nat) (s : State) :
    (post e n f s).install = s.install :=
  rfl
@[simp] theorem post_readSig (e : BillingEntry) (n f : Nat) (s : State) :
    (post e n f s).readSig = s.readSig :=
  rfl
@[simp] theorem post_merge (e : BillingEntry) (n f : Nat) (s : State) :
    (post e n f s).merge = s.merge :=
  rfl
@[simp] theorem post_time (e : BillingEntry) (n f : Nat) (s : State) :
    (post e n f s).time = s.time :=
  rfl
@[simp] theorem post_results (e : BillingEntry) (n f : Nat) (s : State) :
    (post e n f s).results = s.results :=
  rfl
@[simp] theorem post_port (e : BillingEntry) (n f : Nat) (s : State) :
    (post e n f s).port = s.port :=
  rfl
@[simp] theorem post_svc (e : BillingEntry) (n f : Nat) (s : State) :
    (post e n f s).svc = s.svc :=
  rfl
@[simp] theorem post_tar (e : BillingEntry) (n f : Nat) (s : State) :
    (post e n f s).tar = s.tar :=
  rfl
@[simp] theorem post_keys (e : BillingEntry) (n f : Nat) (s : State) :
    (post e n f s).keys = s.keys :=
  rfl
@[simp] theorem post_lock (e : BillingEntry) (n f : Nat) (s : State) :
    (post e n f s).lock = s.lock :=
  rfl
@[simp] theorem post_closing (e : BillingEntry) (n f : Nat) (s : State) :
    (post e n f s).closing = s.closing :=
  rfl
@[simp] theorem post_outA (e : BillingEntry) (n f : Nat) (s : State) :
    (post e n f s).outA = s.outA :=
  rfl
@[simp] theorem post_outB (e : BillingEntry) (n f : Nat) (s : State) :
    (post e n f s).outB = s.outB :=
  rfl
@[simp] theorem post_emergency (e : BillingEntry) (n f : Nat) (s : State) :
    (post e n f s).emergency = s.emergency :=
  rfl
@[simp] theorem post_model (e : BillingEntry) (n f : Nat) (s : State) :
    (post e n f s).model = s.model :=
  rfl
@[simp] theorem post_pending (e : BillingEntry) (n f : Nat) (s : State) :
    (post e n f s).pending = s.pending :=
  rfl

/-! ### `purchaseEnded` -/

@[simp] theorem purchaseEnded_power (f : Nat) (s : State) :
    (purchaseEnded f s).power = s.power :=
  rfl
@[simp] theorem purchaseEnded_ret (f : Nat) (s : State) : (purchaseEnded f s).ret = s.ret := rfl
@[simp] theorem purchaseEnded_install (f : Nat) (s : State) :
    (purchaseEnded f s).install = s.install :=
  rfl
@[simp] theorem purchaseEnded_readSig (f : Nat) (s : State) :
    (purchaseEnded f s).readSig = s.readSig :=
  rfl
@[simp] theorem purchaseEnded_merge (f : Nat) (s : State) :
    (purchaseEnded f s).merge = s.merge :=
  rfl
@[simp] theorem purchaseEnded_time (f : Nat) (s : State) : (purchaseEnded f s).time = s.time := rfl
@[simp] theorem purchaseEnded_results (f : Nat) (s : State) :
    (purchaseEnded f s).results = s.results :=
  rfl
@[simp] theorem purchaseEnded_port (f : Nat) (s : State) : (purchaseEnded f s).port = s.port := rfl
@[simp] theorem purchaseEnded_alerts (f : Nat) (s : State) :
    (purchaseEnded f s).alerts = s.alerts :=
  rfl
@[simp] theorem purchaseEnded_svc (f : Nat) (s : State) : (purchaseEnded f s).svc = s.svc := rfl
@[simp] theorem purchaseEnded_tar (f : Nat) (s : State) : (purchaseEnded f s).tar = s.tar := rfl
@[simp] theorem purchaseEnded_keys (f : Nat) (s : State) :
    (purchaseEnded f s).keys = { s.keys with slots := flushSlots (keptByEnd s f) s.keys.slots } :=
  rfl
@[simp] theorem purchaseEnded_lock (f : Nat) (s : State) : (purchaseEnded f s).lock = s.lock := rfl
@[simp] theorem purchaseEnded_closing (f : Nat) (s : State) :
    (purchaseEnded f s).closing = s.closing :=
  rfl
@[simp] theorem purchaseEnded_emergency (f : Nat) (s : State) :
    (purchaseEnded f s).emergency = s.emergency :=
  rfl
@[simp] theorem purchaseEnded_offer (f : Nat) (s : State) :
    (purchaseEnded f s).offer = s.offer :=
  rfl
@[simp] theorem purchaseEnded_model (f : Nat) (s : State) :
    (purchaseEnded f s).model = s.model :=
  rfl
@[simp] theorem purchaseEnded_pending (f : Nat) (s : State) :
    (purchaseEnded f s).pending = s.pending :=
  rfl

/-! ### `setRunning` -/

@[simp] theorem setRunning_power (n p k a : Nat) (s : State) :
    (setRunning n p k a s).power = s.power :=
  rfl
@[simp] theorem setRunning_install (n p k a : Nat) (s : State) :
    (setRunning n p k a s).install = s.install :=
  rfl
@[simp] theorem setRunning_readSig (n p k a : Nat) (s : State) :
    (setRunning n p k a s).readSig = s.readSig :=
  rfl
@[simp] theorem setRunning_merge (n p k a : Nat) (s : State) :
    (setRunning n p k a s).merge = s.merge :=
  rfl
@[simp] theorem setRunning_time (n p k a : Nat) (s : State) :
    (setRunning n p k a s).time = s.time :=
  rfl
@[simp] theorem setRunning_results (n p k a : Nat) (s : State) :
    (setRunning n p k a s).results = s.results :=
  rfl
@[simp] theorem setRunning_port (n p k a : Nat) (s : State) :
    (setRunning n p k a s).port = s.port :=
  rfl
@[simp] theorem setRunning_alerts (n p k a : Nat) (s : State) :
    (setRunning n p k a s).alerts = s.alerts :=
  rfl
@[simp] theorem setRunning_svc (n p k a : Nat) (s : State) :
    (setRunning n p k a s).svc = s.svc :=
  rfl
@[simp] theorem setRunning_tar (n p k a : Nat) (s : State) :
    (setRunning n p k a s).tar = s.tar :=
  rfl
@[simp] theorem setRunning_keys (n p k a : Nat) (s : State) :
    (setRunning n p k a s).keys = s.keys :=
  rfl
@[simp] theorem setRunning_lock (n p k a : Nat) (s : State) :
    (setRunning n p k a s).lock = s.lock :=
  rfl
@[simp] theorem setRunning_closing (n p k a : Nat) (s : State) :
    (setRunning n p k a s).closing = s.closing :=
  rfl
@[simp] theorem setRunning_outA (n p k a : Nat) (s : State) :
    (setRunning n p k a s).outA = s.outA :=
  rfl
@[simp] theorem setRunning_outB (n p k a : Nat) (s : State) :
    (setRunning n p k a s).outB = s.outB :=
  rfl
@[simp] theorem setRunning_emergency (n p k a : Nat) (s : State) :
    (setRunning n p k a s).emergency = s.emergency :=
  rfl
@[simp] theorem setRunning_offer (n p k a : Nat) (s : State) :
    (setRunning n p k a s).offer = s.offer :=
  rfl
@[simp] theorem setRunning_model (n p k a : Nat) (s : State) :
    (setRunning n p k a s).model = s.model :=
  rfl
@[simp] theorem setRunning_pending (n p k a : Nat) (s : State) :
    (setRunning n p k a s).pending = s.pending :=
  rfl

/-! ### `setPurchaseState` -/

@[simp] theorem setPurchaseState_power (n : Nat) (st : PurchaseState) (s : State) :
    (setPurchaseState n st s).power = s.power :=
  rfl
@[simp] theorem setPurchaseState_install (n : Nat) (st : PurchaseState) (s : State) :
    (setPurchaseState n st s).install = s.install :=
  rfl
@[simp] theorem setPurchaseState_readSig (n : Nat) (st : PurchaseState) (s : State) :
    (setPurchaseState n st s).readSig = s.readSig :=
  rfl
@[simp] theorem setPurchaseState_merge (n : Nat) (st : PurchaseState) (s : State) :
    (setPurchaseState n st s).merge = s.merge :=
  rfl
@[simp] theorem setPurchaseState_time (n : Nat) (st : PurchaseState) (s : State) :
    (setPurchaseState n st s).time = s.time :=
  rfl
@[simp] theorem setPurchaseState_results (n : Nat) (st : PurchaseState) (s : State) :
    (setPurchaseState n st s).results = s.results :=
  rfl
@[simp] theorem setPurchaseState_port (n : Nat) (st : PurchaseState) (s : State) :
    (setPurchaseState n st s).port = s.port :=
  rfl
@[simp] theorem setPurchaseState_alerts (n : Nat) (st : PurchaseState) (s : State) :
    (setPurchaseState n st s).alerts = s.alerts :=
  rfl
@[simp] theorem setPurchaseState_svc (n : Nat) (st : PurchaseState) (s : State) :
    (setPurchaseState n st s).svc = s.svc :=
  rfl
@[simp] theorem setPurchaseState_tar (n : Nat) (st : PurchaseState) (s : State) :
    (setPurchaseState n st s).tar = s.tar :=
  rfl
@[simp] theorem setPurchaseState_keys (n : Nat) (st : PurchaseState) (s : State) :
    (setPurchaseState n st s).keys = s.keys :=
  rfl
@[simp] theorem setPurchaseState_lock (n : Nat) (st : PurchaseState) (s : State) :
    (setPurchaseState n st s).lock = s.lock :=
  rfl
@[simp] theorem setPurchaseState_closing (n : Nat) (st : PurchaseState) (s : State) :
    (setPurchaseState n st s).closing = s.closing :=
  rfl
@[simp] theorem setPurchaseState_outA (n : Nat) (st : PurchaseState) (s : State) :
    (setPurchaseState n st s).outA = s.outA :=
  rfl
@[simp] theorem setPurchaseState_outB (n : Nat) (st : PurchaseState) (s : State) :
    (setPurchaseState n st s).outB = s.outB :=
  rfl
@[simp] theorem setPurchaseState_emergency (n : Nat) (st : PurchaseState) (s : State) :
    (setPurchaseState n st s).emergency = s.emergency :=
  rfl
@[simp] theorem setPurchaseState_offer (n : Nat) (st : PurchaseState) (s : State) :
    (setPurchaseState n st s).offer = s.offer :=
  rfl
@[simp] theorem setPurchaseState_model (n : Nat) (st : PurchaseState) (s : State) :
    (setPurchaseState n st s).model = s.model :=
  rfl
@[simp] theorem setPurchaseState_pending (n : Nat) (st : PurchaseState) (s : State) :
    (setPurchaseState n st s).pending = s.pending :=
  rfl

/-! ### `clearViewed` -/

@[simp] theorem clearViewed_power (s : State) : (clearViewed s).power = s.power := rfl
@[simp] theorem clearViewed_ret (s : State) : (clearViewed s).ret = s.ret := rfl
@[simp] theorem clearViewed_install (s : State) : (clearViewed s).install = s.install := rfl
@[simp] theorem clearViewed_readSig (s : State) : (clearViewed s).readSig = s.readSig := rfl
@[simp] theorem clearViewed_merge (s : State) : (clearViewed s).merge = s.merge := rfl
@[simp] theorem clearViewed_time (s : State) : (clearViewed s).time = s.time := rfl
@[simp] theorem clearViewed_results (s : State) : (clearViewed s).results = s.results := rfl
@[simp] theorem clearViewed_port (s : State) : (clearViewed s).port = s.port := rfl
@[simp] theorem clearViewed_alerts (s : State) : (clearViewed s).alerts = s.alerts := rfl
@[simp] theorem clearViewed_svc (s : State) : (clearViewed s).svc = s.svc := rfl
@[simp] theorem clearViewed_tar (s : State) : (clearViewed s).tar = s.tar := rfl
@[simp] theorem clearViewed_keys (s : State) : (clearViewed s).keys = s.keys := rfl
@[simp] theorem clearViewed_lock (s : State) : (clearViewed s).lock = s.lock := rfl
@[simp] theorem clearViewed_closing (s : State) : (clearViewed s).closing = s.closing := rfl
@[simp] theorem clearViewed_outA (s : State) :
    (clearViewed s).outA = { s.outA with viewed := false } :=
  rfl
@[simp] theorem clearViewed_outB (s : State) :
    (clearViewed s).outB = { s.outB with viewed := false } :=
  rfl
@[simp] theorem clearViewed_emergency (s : State) : (clearViewed s).emergency = s.emergency := rfl
@[simp] theorem clearViewed_offer (s : State) : (clearViewed s).offer = s.offer := rfl
@[simp] theorem clearViewed_model (s : State) : (clearViewed s).model = s.model := rfl
@[simp] theorem clearViewed_pending (s : State) : (clearViewed s).pending = s.pending := rfl

/-! ### `evalMembership` -/

@[simp] theorem evalMembership_power (s : State) : (evalMembership s).power = s.power := rfl
@[simp] theorem evalMembership_ret (s : State) : (evalMembership s).ret = s.ret := rfl
@[simp] theorem evalMembership_install (s : State) : (evalMembership s).install = s.install := rfl
@[simp] theorem evalMembership_readSig (s : State) : (evalMembership s).readSig = s.readSig := rfl
@[simp] theorem evalMembership_merge (s : State) : (evalMembership s).merge = s.merge := rfl
@[simp] theorem evalMembership_time (s : State) : (evalMembership s).time = s.time := rfl
@[simp] theorem evalMembership_results (s : State) : (evalMembership s).results = s.results := rfl
@[simp] theorem evalMembership_port (s : State) : (evalMembership s).port = s.port := rfl
@[simp] theorem evalMembership_alerts (s : State) : (evalMembership s).alerts = s.alerts := rfl
@[simp] theorem evalMembership_svc (s : State) : (evalMembership s).svc = s.svc := rfl
@[simp] theorem evalMembership_tar (s : State) : (evalMembership s).tar = s.tar := rfl
@[simp] theorem evalMembership_keys (s : State) : (evalMembership s).keys = s.keys := rfl
@[simp] theorem evalMembership_lock (s : State) :
    (evalMembership s).lock = { s.lock with membership := membershipNow s } :=
  rfl
@[simp] theorem evalMembership_closing (s : State) : (evalMembership s).closing = s.closing := rfl
@[simp] theorem evalMembership_outA (s : State) : (evalMembership s).outA = s.outA := rfl
@[simp] theorem evalMembership_outB (s : State) : (evalMembership s).outB = s.outB := rfl
@[simp] theorem evalMembership_emergency (s : State) :
    (evalMembership s).emergency = s.emergency :=
  rfl
@[simp] theorem evalMembership_offer (s : State) : (evalMembership s).offer = s.offer := rfl
@[simp] theorem evalMembership_model (s : State) : (evalMembership s).model = s.model := rfl
@[simp] theorem evalMembership_pending (s : State) : (evalMembership s).pending = s.pending := rfl

/-! ### `leaveUnlocked` -/

@[simp] theorem leaveUnlocked_power (s : State) : (leaveUnlocked s).power = s.power := rfl
@[simp] theorem leaveUnlocked_ret (s : State) : (leaveUnlocked s).ret = s.ret := rfl
@[simp] theorem leaveUnlocked_install (s : State) : (leaveUnlocked s).install = s.install := rfl
@[simp] theorem leaveUnlocked_readSig (s : State) : (leaveUnlocked s).readSig = s.readSig := rfl
@[simp] theorem leaveUnlocked_merge (s : State) : (leaveUnlocked s).merge = s.merge := rfl
@[simp] theorem leaveUnlocked_time (s : State) : (leaveUnlocked s).time = s.time := rfl
@[simp] theorem leaveUnlocked_results (s : State) : (leaveUnlocked s).results = s.results := rfl
@[simp] theorem leaveUnlocked_port (s : State) : (leaveUnlocked s).port = s.port := rfl
@[simp] theorem leaveUnlocked_alerts (s : State) :
    (leaveUnlocked s).alerts = s.alerts.latch .sessionEnded :=
  rfl
@[simp] theorem leaveUnlocked_svc (s : State) : (leaveUnlocked s).svc = s.svc := rfl
@[simp] theorem leaveUnlocked_tar (s : State) : (leaveUnlocked s).tar = s.tar := rfl
@[simp] theorem leaveUnlocked_keys (s : State) : (leaveUnlocked s).keys = s.keys := rfl
@[simp] theorem leaveUnlocked_lock (s : State) :
    (leaveUnlocked s).lock = { s.lock with state := .locked } :=
  rfl
@[simp] theorem leaveUnlocked_closing (s : State) : (leaveUnlocked s).closing = s.closing := rfl
@[simp] theorem leaveUnlocked_emergency (s : State) :
    (leaveUnlocked s).emergency = s.emergency :=
  rfl
@[simp] theorem leaveUnlocked_offer (s : State) : (leaveUnlocked s).offer = s.offer := rfl
@[simp] theorem leaveUnlocked_model (s : State) : (leaveUnlocked s).model = s.model := rfl
@[simp] theorem leaveUnlocked_pending (s : State) : (leaveUnlocked s).pending = s.pending := rfl

/-! ### `setFailures` -/

@[simp] theorem setFailures_power (n : Nat) (s : State) : (setFailures n s).power = s.power := rfl
@[simp] theorem setFailures_ret (n : Nat) (s : State) :
    (setFailures n s).ret = { s.ret with failures := n } :=
  rfl
@[simp] theorem setFailures_install (n : Nat) (s : State) :
    (setFailures n s).install = s.install :=
  rfl
@[simp] theorem setFailures_readSig (n : Nat) (s : State) :
    (setFailures n s).readSig = s.readSig :=
  rfl
@[simp] theorem setFailures_merge (n : Nat) (s : State) : (setFailures n s).merge = s.merge := rfl
@[simp] theorem setFailures_time (n : Nat) (s : State) : (setFailures n s).time = s.time := rfl
@[simp] theorem setFailures_results (n : Nat) (s : State) :
    (setFailures n s).results = s.results :=
  rfl
@[simp] theorem setFailures_port (n : Nat) (s : State) : (setFailures n s).port = s.port := rfl
@[simp] theorem setFailures_alerts (n : Nat) (s : State) :
    (setFailures n s).alerts = s.alerts :=
  rfl
@[simp] theorem setFailures_svc (n : Nat) (s : State) : (setFailures n s).svc = s.svc := rfl
@[simp] theorem setFailures_tar (n : Nat) (s : State) : (setFailures n s).tar = s.tar := rfl
@[simp] theorem setFailures_keys (n : Nat) (s : State) : (setFailures n s).keys = s.keys := rfl
@[simp] theorem setFailures_lock (n : Nat) (s : State) : (setFailures n s).lock = s.lock := rfl
@[simp] theorem setFailures_closing (n : Nat) (s : State) :
    (setFailures n s).closing = s.closing :=
  rfl
@[simp] theorem setFailures_outA (n : Nat) (s : State) : (setFailures n s).outA = s.outA := rfl
@[simp] theorem setFailures_outB (n : Nat) (s : State) : (setFailures n s).outB = s.outB := rfl
@[simp] theorem setFailures_emergency (n : Nat) (s : State) :
    (setFailures n s).emergency = s.emergency :=
  rfl
@[simp] theorem setFailures_offer (n : Nat) (s : State) : (setFailures n s).offer = s.offer := rfl
@[simp] theorem setFailures_model (n : Nat) (s : State) : (setFailures n s).model = s.model := rfl
@[simp] theorem setFailures_pending (n : Nat) (s : State) :
    (setFailures n s).pending = s.pending :=
  rfl

/-! ### `usedChoice` -/

@[simp] theorem usedChoice_power (s : State) : (usedChoice s).power = s.power := rfl
@[simp] theorem usedChoice_ret (s : State) : (usedChoice s).ret = s.ret := rfl
@[simp] theorem usedChoice_install (s : State) : (usedChoice s).install = s.install := rfl
@[simp] theorem usedChoice_readSig (s : State) : (usedChoice s).readSig = s.readSig := rfl
@[simp] theorem usedChoice_merge (s : State) : (usedChoice s).merge = s.merge := rfl
@[simp] theorem usedChoice_time (s : State) : (usedChoice s).time = s.time := rfl
@[simp] theorem usedChoice_results (s : State) : (usedChoice s).results = s.results := rfl
@[simp] theorem usedChoice_port (s : State) : (usedChoice s).port = s.port := rfl
@[simp] theorem usedChoice_alerts (s : State) : (usedChoice s).alerts = s.alerts := rfl
@[simp] theorem usedChoice_svc (s : State) : (usedChoice s).svc = s.svc := rfl
@[simp] theorem usedChoice_tar (s : State) : (usedChoice s).tar = s.tar := rfl
@[simp] theorem usedChoice_keys (s : State) : (usedChoice s).keys = s.keys := rfl
@[simp] theorem usedChoice_lock (s : State) : (usedChoice s).lock = s.lock := rfl
@[simp] theorem usedChoice_closing (s : State) : (usedChoice s).closing = s.closing := rfl
@[simp] theorem usedChoice_outA (s : State) : (usedChoice s).outA = s.outA := rfl
@[simp] theorem usedChoice_outB (s : State) : (usedChoice s).outB = s.outB := rfl
@[simp] theorem usedChoice_emergency (s : State) : (usedChoice s).emergency = s.emergency := rfl
@[simp] theorem usedChoice_offer (s : State) : (usedChoice s).offer = s.offer := rfl
@[simp] theorem usedChoice_model (s : State) :
    (usedChoice s).model = { s.model with choices := s.model.choices.tail } :=
  rfl
@[simp] theorem usedChoice_pending (s : State) : (usedChoice s).pending = s.pending := rfl

/-! ### `owe` -/

@[simp] theorem owe_power (c : Consumer) (s : State) : (owe c s).power = s.power := rfl
@[simp] theorem owe_ret (c : Consumer) (s : State) : (owe c s).ret = s.ret := rfl
@[simp] theorem owe_install (c : Consumer) (s : State) : (owe c s).install = s.install := rfl
@[simp] theorem owe_readSig (c : Consumer) (s : State) : (owe c s).readSig = s.readSig := rfl
@[simp] theorem owe_merge (c : Consumer) (s : State) : (owe c s).merge = s.merge := rfl
@[simp] theorem owe_time (c : Consumer) (s : State) : (owe c s).time = s.time := rfl
@[simp] theorem owe_results (c : Consumer) (s : State) : (owe c s).results = s.results := rfl
@[simp] theorem owe_port (c : Consumer) (s : State) : (owe c s).port = s.port := rfl
@[simp] theorem owe_alerts (c : Consumer) (s : State) : (owe c s).alerts = s.alerts := rfl
@[simp] theorem owe_svc (c : Consumer) (s : State) : (owe c s).svc = s.svc := rfl
@[simp] theorem owe_tar (c : Consumer) (s : State) : (owe c s).tar = s.tar := rfl
@[simp] theorem owe_keys (c : Consumer) (s : State) : (owe c s).keys = s.keys := rfl
@[simp] theorem owe_lock (c : Consumer) (s : State) : (owe c s).lock = s.lock := rfl
@[simp] theorem owe_closing (c : Consumer) (s : State) : (owe c s).closing = s.closing := rfl
@[simp] theorem owe_outA (c : Consumer) (s : State) : (owe c s).outA = s.outA := rfl
@[simp] theorem owe_outB (c : Consumer) (s : State) : (owe c s).outB = s.outB := rfl
@[simp] theorem owe_emergency (c : Consumer) (s : State) : (owe c s).emergency = s.emergency := rfl
@[simp] theorem owe_offer (c : Consumer) (s : State) : (owe c s).offer = s.offer := rfl
@[simp] theorem owe_model (c : Consumer) (s : State) :
    (owe c s).model = { s.model with due := s.model.due ++ [c] } :=
  rfl
@[simp] theorem owe_pending (c : Consumer) (s : State) : (owe c s).pending = s.pending := rfl

/-! ### `paid` -/

@[simp] theorem paid_power (c : Consumer) (s : State) : (paid c s).power = s.power := rfl
@[simp] theorem paid_ret (c : Consumer) (s : State) : (paid c s).ret = s.ret := rfl
@[simp] theorem paid_install (c : Consumer) (s : State) : (paid c s).install = s.install := rfl
@[simp] theorem paid_readSig (c : Consumer) (s : State) : (paid c s).readSig = s.readSig := rfl
@[simp] theorem paid_merge (c : Consumer) (s : State) : (paid c s).merge = s.merge := rfl
@[simp] theorem paid_time (c : Consumer) (s : State) : (paid c s).time = s.time := rfl
@[simp] theorem paid_results (c : Consumer) (s : State) : (paid c s).results = s.results := rfl
@[simp] theorem paid_port (c : Consumer) (s : State) : (paid c s).port = s.port := rfl
@[simp] theorem paid_alerts (c : Consumer) (s : State) : (paid c s).alerts = s.alerts := rfl
@[simp] theorem paid_svc (c : Consumer) (s : State) : (paid c s).svc = s.svc := rfl
@[simp] theorem paid_tar (c : Consumer) (s : State) : (paid c s).tar = s.tar := rfl
@[simp] theorem paid_keys (c : Consumer) (s : State) : (paid c s).keys = s.keys := rfl
@[simp] theorem paid_lock (c : Consumer) (s : State) : (paid c s).lock = s.lock := rfl
@[simp] theorem paid_closing (c : Consumer) (s : State) : (paid c s).closing = s.closing := rfl
@[simp] theorem paid_outA (c : Consumer) (s : State) : (paid c s).outA = s.outA := rfl
@[simp] theorem paid_outB (c : Consumer) (s : State) : (paid c s).outB = s.outB := rfl
@[simp] theorem paid_emergency (c : Consumer) (s : State) :
    (paid c s).emergency = s.emergency :=
  rfl
@[simp] theorem paid_offer (c : Consumer) (s : State) : (paid c s).offer = s.offer := rfl
@[simp] theorem paid_model (c : Consumer) (s : State) :
    (paid c s).model = { s.model with due := s.model.due.erase c } :=
  rfl
@[simp] theorem paid_pending (c : Consumer) (s : State) : (paid c s).pending = s.pending := rfl

/-! ### `installIncoming` -/

@[simp] theorem installIncoming_power (s : State) : (installIncoming s).power = s.power := rfl
@[simp] theorem installIncoming_install (s : State) : (installIncoming s).install = s.install := rfl
@[simp] theorem installIncoming_readSig (s : State) : (installIncoming s).readSig = s.readSig := rfl
@[simp] theorem installIncoming_merge (s : State) : (installIncoming s).merge = s.merge := rfl
@[simp] theorem installIncoming_time (s : State) : (installIncoming s).time = s.time := rfl
@[simp] theorem installIncoming_results (s : State) : (installIncoming s).results = s.results := rfl
@[simp] theorem installIncoming_port (s : State) : (installIncoming s).port = s.port := rfl
@[simp] theorem installIncoming_alerts (s : State) : (installIncoming s).alerts = s.alerts := rfl
@[simp] theorem installIncoming_svc (s : State) : (installIncoming s).svc = s.svc := rfl
@[simp] theorem installIncoming_tar (s : State) : (installIncoming s).tar = s.tar := rfl
@[simp] theorem installIncoming_keys (s : State) : (installIncoming s).keys = s.keys := rfl
@[simp] theorem installIncoming_lock (s : State) : (installIncoming s).lock = s.lock := rfl
@[simp] theorem installIncoming_closing (s : State) : (installIncoming s).closing = none := rfl
@[simp] theorem installIncoming_outA (s : State) : (installIncoming s).outA = s.outA := rfl
@[simp] theorem installIncoming_outB (s : State) : (installIncoming s).outB = s.outB := rfl
@[simp] theorem installIncoming_emergency (s : State) :
    (installIncoming s).emergency = s.emergency :=
  rfl
@[simp] theorem installIncoming_offer (s : State) : (installIncoming s).offer = s.offer := rfl
@[simp] theorem installIncoming_model (s : State) : (installIncoming s).model = s.model := rfl
@[simp] theorem installIncoming_pending (s : State) : (installIncoming s).pending = s.pending := rfl

/-! ### `completeTenancy` -/

@[simp] theorem completeTenancy_power (s : State) : (completeTenancy s).power = s.power := rfl
@[simp] theorem completeTenancy_install (s : State) : (completeTenancy s).install = s.install := rfl
@[simp] theorem completeTenancy_readSig (s : State) : (completeTenancy s).readSig = s.readSig := rfl
@[simp] theorem completeTenancy_merge (s : State) : (completeTenancy s).merge = s.merge := rfl
@[simp] theorem completeTenancy_time (s : State) : (completeTenancy s).time = s.time := rfl
@[simp] theorem completeTenancy_results (s : State) : (completeTenancy s).results = s.results := rfl
@[simp] theorem completeTenancy_port (s : State) : (completeTenancy s).port = s.port := rfl
@[simp] theorem completeTenancy_alerts (s : State) :
    (completeTenancy s).alerts = s.alerts.latch .tenancyChanged :=
  rfl
@[simp] theorem completeTenancy_svc (s : State) : (completeTenancy s).svc = s.svc := rfl
@[simp] theorem completeTenancy_tar (s : State) : (completeTenancy s).tar = s.tar := rfl
@[simp] theorem completeTenancy_keys (s : State) : (completeTenancy s).keys = s.keys := rfl
@[simp] theorem completeTenancy_closing (s : State) : (completeTenancy s).closing = none := rfl
@[simp] theorem completeTenancy_emergency (s : State) :
    (completeTenancy s).emergency = s.emergency :=
  rfl
@[simp] theorem completeTenancy_offer (s : State) : (completeTenancy s).offer = s.offer := rfl
@[simp] theorem completeTenancy_model (s : State) : (completeTenancy s).model = s.model := rfl
@[simp] theorem completeTenancy_pending (s : State) : (completeTenancy s).pending = s.pending := rfl

/-! ### `loseRetained` -/

@[simp] theorem loseRetained_power (s : State) :
    (loseRetained s).power = { s.power with valid := false, losses := s.power.losses + 1 } :=
  rfl
@[simp] theorem loseRetained_install (s : State) : (loseRetained s).install = s.install := rfl
@[simp] theorem loseRetained_readSig (s : State) : (loseRetained s).readSig = s.readSig := rfl
@[simp] theorem loseRetained_merge (s : State) : (loseRetained s).merge = s.merge := rfl
@[simp] theorem loseRetained_time (s : State) : (loseRetained s).time = s.time := rfl
@[simp] theorem loseRetained_results (s : State) : (loseRetained s).results = s.results := rfl
@[simp] theorem loseRetained_port (s : State) : (loseRetained s).port = s.port := rfl
@[simp] theorem loseRetained_alerts (s : State) : (loseRetained s).alerts = s.alerts := rfl
@[simp] theorem loseRetained_svc (s : State) : (loseRetained s).svc = s.svc := rfl
@[simp] theorem loseRetained_tar (s : State) : (loseRetained s).tar = s.tar := rfl
@[simp] theorem loseRetained_keys (s : State) : (loseRetained s).keys = s.keys := rfl
@[simp] theorem loseRetained_lock (s : State) : (loseRetained s).lock = s.lock := rfl
@[simp] theorem loseRetained_closing (s : State) : (loseRetained s).closing = s.closing := rfl
@[simp] theorem loseRetained_outA (s : State) : (loseRetained s).outA = s.outA := rfl
@[simp] theorem loseRetained_outB (s : State) : (loseRetained s).outB = s.outB := rfl
@[simp] theorem loseRetained_emergency (s : State) : (loseRetained s).emergency = s.emergency := rfl
@[simp] theorem loseRetained_offer (s : State) : (loseRetained s).offer = s.offer := rfl
@[simp] theorem loseRetained_model (s : State) : (loseRetained s).model = s.model := rfl
@[simp] theorem loseRetained_pending (s : State) : (loseRetained s).pending = s.pending := rfl

/-! ### The clock: `Sending.advance`, `ReturnPort.advance`, `Output.advance`, `tick` -/

@[simp] theorem Sending.advance_bytes (n : Nat) (x : Sending) : (x.advance n).bytes = x.bytes := rfl
@[simp] theorem ReturnPort.advance_resultSeq (n : Nat) (p : ReturnPort) :
    (p.advance n).resultSeq = p.resultSeq :=
  rfl
@[simp] theorem ReturnPort.advance_billingSeq (n : Nat) (p : ReturnPort) :
    (p.advance n).billingSeq = p.billingSeq :=
  rfl
@[simp] theorem ReturnPort.advance_ready (n : Nat) (p : ReturnPort) :
    (p.advance n).ready = p.ready :=
  rfl
@[simp] theorem Output.advance_selected (n : Nat) (out : Output) :
    (out.advance n).selected = out.selected :=
  rfl
@[simp] theorem Output.advance_saved (n : Nat) (out : Output) :
    (out.advance n).saved = out.saved :=
  rfl
@[simp] theorem Output.advance_state (n : Nat) (out : Output) :
    (out.advance n).state = out.state :=
  rfl
@[simp] theorem Output.advance_entryWait (n : Nat) (out : Output) :
    (out.advance n).entryWait = out.entryWait :=
  rfl
@[simp] theorem Output.advance_viewed (n : Nat) (out : Output) :
    (out.advance n).viewed = out.viewed :=
  rfl
@[simp] theorem Output.advance_last (n : Nat) (out : Output) :
    (out.advance n).last = out.last :=
  rfl
@[simp] theorem Output.advance_queue (n : Nat) (out : Output) :
    (out.advance n).queue = out.queue :=
  rfl
@[simp] theorem Output.advance_ready (n : Nat) (out : Output) :
    (out.advance n).ready = out.ready :=
  rfl
@[simp] theorem tick_power (s : State) : (tick s).power = s.power := by
  unfold tick; split <;> rfl
@[simp] theorem tick_ret (s : State) : (tick s).ret = s.ret := by
  unfold tick; split <;> rfl
@[simp] theorem tick_install (s : State) : (tick s).install = s.install := by
  unfold tick; split <;> rfl
@[simp] theorem tick_readSig (s : State) : (tick s).readSig = s.readSig := by
  unfold tick; split <;> rfl
@[simp] theorem tick_results (s : State) : (tick s).results = s.results := by
  unfold tick; split <;> rfl
@[simp] theorem tick_alerts (s : State) : (tick s).alerts = s.alerts := by
  unfold tick; split <;> rfl
@[simp] theorem tick_svc (s : State) : (tick s).svc = s.svc := by
  unfold tick; split <;> rfl
@[simp] theorem tick_tar (s : State) : (tick s).tar = s.tar := by
  unfold tick; split <;> rfl
@[simp] theorem tick_keys (s : State) : (tick s).keys = s.keys := by
  unfold tick; split <;> rfl
@[simp] theorem tick_lock (s : State) : (tick s).lock = s.lock := by
  unfold tick; split <;> rfl
@[simp] theorem tick_closing (s : State) : (tick s).closing = s.closing := by
  unfold tick; split <;> rfl
@[simp] theorem tick_emergency (s : State) : (tick s).emergency = s.emergency := by
  unfold tick; split <;> rfl
@[simp] theorem tick_offer (s : State) : (tick s).offer = s.offer := by
  unfold tick; split <;> rfl
@[simp] theorem tick_pending (s : State) : (tick s).pending = s.pending := by
  unfold tick; split <;> rfl

/-! ### The parts of composite fields -/

/-- R150: what a post leaves in the retained area. -/
theorem post_ret (e : BillingEntry) (n f : Nat) (s : State) :
    (post e n f s).ret =
      { s.ret with
        records := s.ret.records ++ [newRecord s e n f]
        nextSerial := nextSerialAfter s.ret.nextSerial } :=
  rfl

/-- R106: what a completion leaves in the retained area. -/
theorem completeTenancy_ret (s : State) :
    (completeTenancy s).ret =
      { s.ret with
        active := s.ret.incoming
        incoming := none
        tenancy := if s.ret.incoming.isSome then .occupied else .vacant
        spentToday := 0
        billingDay := billingDayAtCompletion (latch .tenancyChanged (installIncoming s))
        failures := 0 } :=
  rfl

end Sys2Proof.Machine
end

