-- ==== Sys2Proof/Laws/Frames.lean ====
section
/-!
SUPPORT. What the events of the part leave alone. `Untouched s t` gathers the fields that no consumer of
an event changes; each shared operation that decides by the state has one lemma here.
-/
namespace Sys2Proof.Machine

/-- The fields that no consumer of an event changes are in `t` as they are in `s`. -/
structure Untouched (s t : State) : Prop where
  power : t.power = s.power
  install : t.install = s.install
  readSig : t.readSig = s.readSig
  merge : t.merge = s.merge
  time : t.time = s.time
  results : t.results = s.results
  port : t.port = s.port
  emergency : t.emergency = s.emergency
  pending : t.pending = s.pending

theorem Untouched.refl (s : State) : Untouched s s := ⟨rfl, rfl, rfl, rfl, rfl, rfl, rfl, rfl, rfl⟩

theorem Untouched.trans {s t u : State} (h : Untouched s t) (k : Untouched t u) : Untouched s u :=
  ⟨k.power.trans h.power, k.install.trans h.install, k.readSig.trans h.readSig, k.merge.trans h.merge, k.time.trans h.time,
    k.results.trans h.results, k.port.trans h.port, k.emergency.trans h.emergency,
    k.pending.trans h.pending⟩

/-- A fold of steps that each leave the fields alone leaves them alone. -/
theorem Untouched.foldl {α : Type} (f : State → α → State) (hf : ∀ s a, Untouched s (f s a)) :
    ∀ (l : List α) (s : State), Untouched s (l.foldl f s)
  | [], s => .refl s
  | a :: l, s => (hf s a).trans (Untouched.foldl f hf l (f s a))

/-- A part whose untouched fields agree is live where the other is. -/
theorem Untouched.live {s t : State} (h : Untouched s t) : live t = live s := by
  simp [Machine.live, h.power]

/-- A part whose untouched fields agree is running where the other is. -/
theorem Untouched.running {s t : State} (h : Untouched s t) : running t = running s := by
  simp [Machine.running, h.live, h.power]

/-! ### Shared operations that leave the fields alone whatever the state -/

theorem latch_untouched (src : AlertSource) (s : State) : Untouched s (latch src s) :=
  ⟨rfl, rfl, rfl, rfl, rfl, rfl, rfl, rfl, rfl⟩

theorem purge_untouched (s : State) : Untouched s (purge s) := ⟨rfl, rfl, rfl, rfl, rfl, rfl, rfl, rfl, rfl⟩

theorem flushKeys_untouched (keep : KeySlot → Bool) (s : State) : Untouched s (flushKeys keep s) :=
  ⟨rfl, rfl, rfl, rfl, rfl, rfl, rfl, rfl, rfl⟩

theorem post_untouched (e : BillingEntry) (n f : Nat) (s : State) : Untouched s (post e n f s) :=
  ⟨rfl, rfl, rfl, rfl, rfl, rfl, rfl, rfl, rfl⟩

theorem evalMembership_untouched (s : State) : Untouched s (evalMembership s) :=
  ⟨rfl, rfl, rfl, rfl, rfl, rfl, rfl, rfl, rfl⟩

theorem setFailures_untouched (n : Nat) (s : State) : Untouched s (setFailures n s) :=
  ⟨rfl, rfl, rfl, rfl, rfl, rfl, rfl, rfl, rfl⟩

theorem leaveUnlocked_untouched (s : State) : Untouched s (leaveUnlocked s) :=
  ⟨rfl, rfl, rfl, rfl, rfl, rfl, rfl, rfl, rfl⟩

theorem clearViewed_untouched (s : State) : Untouched s (clearViewed s) :=
  ⟨rfl, rfl, rfl, rfl, rfl, rfl, rfl, rfl, rfl⟩

theorem completeTenancy_untouched (s : State) : Untouched s (completeTenancy s) :=
  ⟨rfl, rfl, rfl, rfl, rfl, rfl, rfl, rfl, rfl⟩

theorem withMachine_untouched (t : Table) (m : TableMachine) (s : State) :
    Untouched s (withMachine t m s) := ⟨rfl, rfl, rfl, rfl, rfl, rfl, rfl, rfl, rfl⟩

theorem owe_untouched (c : Consumer) (s : State) : Untouched s (owe c s) :=
  ⟨rfl, rfl, rfl, rfl, rfl, rfl, rfl, rfl, rfl⟩

theorem usedChoice_untouched (s : State) : Untouched s (usedChoice s) :=
  ⟨rfl, rfl, rfl, rfl, rfl, rfl, rfl, rfl, rfl⟩

/-! ### The Lock Unit -/

/-- R118, R121, R122: what closing the lock can do: an open session ends, a lockout is cancelled, a
LOCKED lock stays. -/
theorem closeLock_cases (s : State) :
    (s.lock.state = .locked ∧ closeLock s = s)
      ∨ (∃ e, s.lock.state = .unlocked e ∧ closeLock s = leaveUnlocked s)
      ∨ (∃ e, s.lock.state = .lockout e
          ∧ closeLock s = { s with lock := { s.lock with state := .locked } }) := by
  unfold closeLock
  cases s.lock.state <;> simp

/-- R118, R121, R122: after closing it the lock is LOCKED. -/
@[simp] theorem closeLock_state (s : State) : (closeLock s).lock.state = .locked := by
  rcases closeLock_cases s with ⟨h, e⟩ | ⟨_, _, e⟩ | ⟨_, _, e⟩ <;> rw [e]
  · exact h
  · rfl

@[simp] theorem closeLock_ret (s : State) : (closeLock s).ret = s.ret := by
  rcases closeLock_cases s with ⟨_, e⟩ | ⟨_, _, e⟩ | ⟨_, _, e⟩ <;> rw [e]
  · rfl

theorem closeLock_untouched (s : State) : Untouched s (closeLock s) := by
  rcases closeLock_cases s with ⟨_, e⟩ | ⟨_, _, e⟩ | ⟨_, _, e⟩ <;> rw [e]
  · exact .refl s
  · exact leaveUnlocked_untouched s
  · exact ⟨rfl, rfl, rfl, rfl, rfl, rfl, rfl, rfl, rfl⟩

/-- R119: what the expiry comparison of the second event can do. -/
theorem expiryEvent_cases (s : State) :
    expiryEvent s = s
      ∨ (running s = true ∧ s.lock.state = .unlocked s.time.mono ∧ expiryEvent s = leaveUnlocked s)
      ∨ (running s = true ∧ s.lock.state = .lockout s.time.mono
          ∧ expiryEvent s = { s with lock := { s.lock with state := .locked } }) := by
  unfold expiryEvent
  split
  · rename_i hr
    split
    · rename_i e he
      split
      · rename_i hm
        exact .inr (.inl ⟨hr, hm ▸ he, rfl⟩)
      · exact .inl rfl
    · rename_i e he
      split
      · rename_i hm
        exact .inr (.inr ⟨hr, hm ▸ he, rfl⟩)
      · exact .inl rfl
    · exact .inl rfl
  · exact .inl rfl

theorem expiryEvent_untouched (s : State) : Untouched s (expiryEvent s) := by
  rcases expiryEvent_cases s with e | ⟨_, _, e⟩ | ⟨_, _, e⟩ <;> rw [e]
  · exact .refl s
  · exact leaveUnlocked_untouched s
  · exact ⟨rfl, rfl, rfl, rfl, rfl, rfl, rfl, rfl, rfl⟩

/-- R120: what the evaluation of the window membership on a time event can do. -/
theorem windowEvent_cases (s : State) :
    (running s = false ∧ windowEvent s = s)
      ∨ (running s = true ∧ crossesEdge s.lock.membership (membershipNow s) = true
          ∧ windowEvent s = purge (evalMembership s))
      ∨ (running s = true ∧ crossesEdge s.lock.membership (membershipNow s) = false
          ∧ windowEvent s = evalMembership s) := by
  unfold windowEvent
  cases running s <;> cases crossesEdge s.lock.membership (membershipNow s) <;> simp

theorem windowEvent_untouched (s : State) : Untouched s (windowEvent s) := by
  rcases windowEvent_cases s with ⟨_, e⟩ | ⟨_, _, e⟩ | ⟨_, _, e⟩ <;> rw [e]
  · exact .refl s
  · exact (evalMembership_untouched s).trans (purge_untouched _)
  · exact evalMembership_untouched s

/-- R119, R120: what the Lock Unit does with the second event. -/
theorem lockEvent_cases (s : State) :
    (s.model.windowFirst = false ∧ lockEvent s = windowEvent (expiryEvent s))
      ∨ (s.model.windowFirst = true ∧ lockEvent s = expiryEvent (windowEvent s)) := by
  unfold lockEvent
  cases s.model.windowFirst <;> simp

theorem lockEvent_untouched (s : State) : Untouched s (lockEvent s) := by
  rcases lockEvent_cases s with ⟨_, e⟩ | ⟨_, e⟩ <;> rw [e]
  · exact (expiryEvent_untouched s).trans (windowEvent_untouched _)
  · exact (windowEvent_untouched s).trans (expiryEvent_untouched _)

/-! ### The Purchase Meter -/

/-- R140: an evaluation of the billing day changes the current billing day and spent-today alone, and
spent-today only to 0. -/
theorem evalBillingDay_ret (s : State) :
    ∃ day spent, evalBillingDay s = { s with ret := { s.ret with billingDay := day, spentToday := spent } }
      ∧ (spent = s.ret.spentToday ∨ spent = 0) := by
  unfold evalBillingDay
  dsimp only
  repeat' split
  all_goals first
    | exact ⟨_, _, rfl, .inl rfl⟩
    | exact ⟨_, _, rfl, .inr rfl⟩

theorem evalBillingDay_untouched (s : State) : Untouched s (evalBillingDay s) := by
  obtain ⟨_, _, e, _⟩ := evalBillingDay_ret s
  rw [e]
  exact ⟨rfl, rfl, rfl, rfl, rfl, rfl, rfl, rfl, rfl⟩

/-- R143: what an end does: nothing without a live purchase of that number; otherwise its END record is
posted, it leaves the table, PURCHASE ENDED latches, its film's slots are flushed and the queues are
purged. -/
theorem endPurchase_cases (n : Nat) (reason : EndReason) (s : State) :
    (purchaseOf s n = none ∧ endPurchase n reason s = s)
      ∨ ∃ p, purchaseOf s n = some p
          ∧ endPurchase n reason s =
              purchaseEnded p.film (latch .purchaseEnded
                { post (.ended reason p.total) p.number p.film s with
                  ret := { (post (.ended reason p.total) p.number p.film s).ret with
                    purchases := s.ret.purchases.eraseP (fun q => q.number == n) } }) := by
  unfold endPurchase
  cases h : purchaseOf s n with
  | none => exact .inl ⟨rfl, rfl⟩
  | some p => exact .inr ⟨p, rfl, rfl⟩

theorem endPurchase_untouched (n : Nat) (reason : EndReason) (s : State) :
    Untouched s (endPurchase n reason s) := by
  rcases endPurchase_cases n reason s with ⟨_, e⟩ | ⟨_, _, e⟩ <;> rw [e]
  · exact .refl s
  · exact ⟨rfl, rfl, rfl, rfl, rfl, rfl, rfl, rfl, rfl⟩

theorem endAll_untouched (reason : EndReason) (s : State) : Untouched s (endAll reason s) :=
  Untouched.foldl _ (fun s n => endPurchase_untouched n reason s) _ s

/-- R138: what the beginning of a repetition can do, by what becomes of its charge. -/
theorem beginRepetition_cases (n position k : Nat) (s : State) :
    (purchaseOf s n = none ∧ beginRepetition n position k s = s)
      ∨ ∃ p, purchaseOf s n = some p
          ∧ ((chargeFate s (chargeAmount p position k) = .free
                ∧ beginRepetition n position k s = setRunning n position k 0 s)
            ∨ (chargeFate s (chargeAmount p position k) = .overLimit
                ∧ beginRepetition n position k s = endPurchase n .limit s)
            ∨ (chargeFate s (chargeAmount p position k) = .noPlace
                ∧ beginRepetition n position k s = endPurchase n .queue s)
            ∨ (chargeFate s (chargeAmount p position k) = .posted
                ∧ beginRepetition n position k s =
                    post (.charge (chargeAmount p position k) position k) p.number p.film
                      { setRunning n position k (chargeAmount p position k) s with
                        ret := { (setRunning n position k (chargeAmount p position k) s).ret with
                          spentToday := s.ret.spentToday + chargeAmount p position k } })) := by
  unfold beginRepetition
  cases h : purchaseOf s n with
  | none => exact .inl ⟨rfl, rfl⟩
  | some p =>
    refine .inr ⟨p, rfl, ?_⟩
    cases hf : chargeFate s (chargeAmount p position k) <;> simp [hf]
    rfl

theorem setRunning_untouched (n p k a : Nat) (s : State) : Untouched s (setRunning n p k a s) :=
  ⟨rfl, rfl, rfl, rfl, rfl, rfl, rfl, rfl, rfl⟩

theorem setPurchaseState_untouched (n : Nat) (st : PurchaseState) (s : State) :
    Untouched s (setPurchaseState n st s) := ⟨rfl, rfl, rfl, rfl, rfl, rfl, rfl, rfl, rfl⟩

theorem beginRepetition_untouched (n position k : Nat) (s : State) :
    Untouched s (beginRepetition n position k s) := by
  rcases beginRepetition_cases n position k s with
    ⟨_, e⟩ | ⟨_, _, ⟨_, e⟩ | ⟨_, e⟩ | ⟨_, e⟩ | ⟨_, e⟩⟩ <;> rw [e]
  · exact .refl s
  · exact setRunning_untouched ..
  · exact endPurchase_untouched ..
  · exact endPurchase_untouched ..
  · exact ⟨rfl, rfl, rfl, rfl, rfl, rfl, rfl, rfl, rfl⟩

/-- R134, R135: on a second event the meter does one of four things with a live purchase. -/
theorem meterPurchase_cases (n : Nat) (viewed : Bool) (s : State) :
    meterPurchase n viewed s = s
      ∨ (∃ st, meterPurchase n viewed s = setPurchaseState n st s)
      ∨ (∃ position k, meterPurchase n viewed s = beginRepetition n position k s)
      ∨ ∃ reason, meterPurchase n viewed s = endPurchase n reason s := by
  unfold meterPurchase
  dsimp only
  repeat' split
  all_goals first
    | exact .inl rfl
    | exact .inr (.inl ⟨_, rfl⟩)
    | exact .inr (.inr (.inl ⟨_, _, rfl⟩))
    | exact .inr (.inr (.inr ⟨_, rfl⟩))

theorem meterPurchase_untouched (n : Nat) (viewed : Bool) (s : State) :
    Untouched s (meterPurchase n viewed s) := by
  rcases meterPurchase_cases n viewed s with e | ⟨_, e⟩ | ⟨_, _, e⟩ | ⟨_, e⟩ <;> rw [e]
  · exact .refl s
  · exact setPurchaseState_untouched ..
  · exact beginRepetition_untouched ..
  · exact endPurchase_untouched ..

theorem meterAll_untouched (s0 s : State) : Untouched s (meterAll s0 s) :=
  Untouched.foldl (fun (s : State) (p : Purchase) => meterPurchase p.number (isViewed s0 p.film) s)
    (fun s p => meterPurchase_untouched p.number _ s) s0.ret.purchases s

theorem meterSecond_untouched (s : State) : Untouched s (meterSecond s) := by
  unfold meterSecond
  split
  · refine (evalBillingDay_untouched s).trans ?_
    dsimp only
    split
    · exact clearViewed_untouched _
    · exact (meterAll_untouched _ _).trans (clearViewed_untouched _)
  · exact .refl s

/-! ### The Table Loader -/

theorem serviceCommitted_untouched (s : State) : Untouched s (serviceCommitted s) :=
  ⟨rfl, rfl, rfl, rfl, rfl, rfl, rfl, rfl, rfl⟩

/-- R67: what a commit can do: nothing without a stage; otherwise the stage becomes the active copy, the
machine is IDLE, TABLE COMMITTED latches, and a Service Table commit reaches its consumers. -/
theorem commit_cases (t : Table) (s : State) :
    ((machine s t).stage.contents = none ∧ commit t s = s)
      ∨ ∃ g rows made, (machine s t).stage.contents = some (g, rows)
          ∧ made = latch .tableCommitted (withMachine t
              { machine s t with activeGen := g, active := rows, stage := .idle, commitDue := false } s)
          ∧ ((t = .tariff ∧ commit t s = made)
            ∨ (t = .service ∧ commit t s = serviceCommitted made)) := by
  unfold commit
  cases h : (machine s t).stage.contents with
  | none => exact .inl ⟨rfl, rfl⟩
  | some x =>
    obtain ⟨g, rows⟩ := x
    refine .inr ⟨g, rows, _, rfl, rfl, ?_⟩
    cases t <;> simp

theorem commit_untouched (t : Table) (s : State) : Untouched s (commit t s) := by
  rcases commit_cases t s with ⟨_, e⟩ | ⟨_, _, _, _, rfl, ⟨_, e⟩ | ⟨_, e⟩⟩ <;> rw [e]
  · exact .refl s
  · exact ⟨rfl, rfl, rfl, rfl, rfl, rfl, rfl, rfl, rfl⟩
  · exact ⟨rfl, rfl, rfl, rfl, rfl, rfl, rfl, rfl, rfl⟩

theorem decideCommit_untouched (later : Bool) (t : Table) (s : State) :
    Untouched s (decideCommit later t s) := by
  unfold decideCommit
  split
  · exact withMachine_untouched ..
  · exact commit_untouched ..

theorem commitIfDue_untouched (t : Table) (s : State) : Untouched s (commitIfDue t s) := by
  unfold commitIfDue
  split
  · exact commit_untouched t s
  · exact .refl s

theorem commitsDue_untouched (s : State) : Untouched s (commitsDue s) :=
  (commitIfDue_untouched .service s).trans (commitIfDue_untouched .tariff _)

/-- R67: with no commit due, none is made. -/
theorem commitsDue_of_none {s : State} (hs : s.svc.commitDue = false) (ht : s.tar.commitDue = false) :
    commitsDue s = s := by
  simp [commitsDue, commitIfDue, machine, hs, ht]

theorem activateIfReached_untouched (t : Table) (s : State) : Untouched s (activateIfReached t s) := by
  unfold activateIfReached
  split
  · exact commit_untouched t s
  · exact .refl s

theorem loaderEvent_untouched (s : State) : Untouched s (loaderEvent s) :=
  (activateIfReached_untouched .service s).trans (activateIfReached_untouched .tariff _)

/-! ### The Tenancy Unit -/

/-- R104: a test of the completion condition completes the change, or does nothing. -/
theorem testCompletion_cases (s : State) :
    (running s = true ∧ s.ret.tenancy = .closing ∧ allOffered s = true
        ∧ testCompletion s = completeTenancy s)
      ∨ testCompletion s = s := by
  unfold testCompletion
  split
  · rename_i h
    simp only [Bool.and_eq_true, beq_iff_eq] at h
    exact .inl ⟨h.1.1, h.1.2, h.2, rfl⟩
  · exact .inr rfl

theorem testCompletion_untouched (s : State) : Untouched s (testCompletion s) := by
  rcases testCompletion_cases s with ⟨_, _, _, e⟩ | e <;> rw [e]
  · exact completeTenancy_untouched s
  · exact .refl s

theorem tenancySecond_untouched (s : State) : Untouched s (tenancySecond s) := by
  unfold tenancySecond
  split
  · exact completeTenancy_untouched s
  · exact .refl s

/-! ### The consumers of the events -/

theorem takeSecond_untouched (c : Consumer) (s : State) : Untouched s (takeSecond c s) := by
  cases c
  · exact lockEvent_untouched s
  · exact meterSecond_untouched s
  · exact loaderEvent_untouched s
  · exact tenancySecond_untouched s
  · exact .refl s
  · exact .refl s

theorem deliverSecond_untouched (later : List Consumer) (c : Consumer) (s : State) :
    Untouched s (deliverSecond later c s) := by
  unfold deliverSecond
  split
  · exact owe_untouched c s
  · exact takeSecond_untouched c s

theorem settle_untouched (s : State) : Untouched s (settle s) :=
  Untouched.trans (t := { s with model := { s.model with due := [] } })
    ⟨rfl, rfl, rfl, rfl, rfl, rfl, rfl, rfl, rfl⟩
    (Untouched.foldl _ (fun s c => takeSecond_untouched c s) _ _)

/-- R41: what a consumer owes nothing of is not taken again. -/
theorem settle_of_none {s : State} (h : s.model.due = []) : settle s = s := by
  have hm : ({ s.model with due := [] } : Schedule) = s.model := by rw [← h]
  simp [settle, h, hm]

theorem takeStep_untouched (c : Consumer) (s : State) : Untouched s (takeStep c s) := by
  cases c
  · exact windowEvent_untouched s
  · exact evalBillingDay_untouched s
  · exact loaderEvent_untouched s
  · exact .refl s
  · exact .refl s
  · exact .refl s

theorem takeClosing_untouched (c : Consumer) (s : State) : Untouched s (takeClosing c s) := by
  cases c
  · exact ((closeLock_untouched s).trans (setFailures_untouched 0 _)).trans (evalMembership_untouched _)
  · exact endAll_untouched _ s
  · exact .refl s
  · exact .refl s
  · exact ⟨rfl, rfl, rfl, rfl, rfl, rfl, rfl, rfl, rfl⟩
  · exact purge_untouched s

theorem takeRecordChanged_untouched (differs : Bool) (c : Consumer) (s : State) :
    Untouched s (takeRecordChanged differs c s) := by
  cases c
  · refine Untouched.trans ?_ (evalMembership_untouched _)
    split
    · exact (closeLock_untouched s).trans (setFailures_untouched 0 _)
    · exact .refl s
  · exact .refl s
  · exact .refl s
  · exact .refl s
  · exact flushKeys_untouched _ s
  · exact purge_untouched s

/-- R41, R43: the second event advances both clocks and leaves the other untouched fields alone. -/
theorem secondEvent_untouched (s : State) : Untouched { s with time := s.time.second } (secondEvent s) := by
  unfold secondEvent
  dsimp only
  refine Untouched.trans ?_ (Untouched.foldl _ (fun s c => deliverSecond_untouched _ c s) _ _)
  have h := settle_untouched s
  exact ⟨h.power, h.install, h.readSig, h.merge, congrArg TimeBase.second h.time, h.results, h.port, h.emergency,
    h.pending⟩

/-- R45: adopting a mark sets building time and leaves the other untouched fields alone. -/
theorem adoptTime_untouched (t : BuildingTime) (s : State) :
    Untouched { s with time := { s.time with building := some t } } (adoptTime t s) := by
  unfold adoptTime
  split
  · rename_i h
    refine ⟨rfl, rfl, rfl, rfl, ?_, rfl, rfl, rfl, rfl⟩
    show s.time = { s.time with building := some t }
    rw [← h]
  · dsimp only
    refine Untouched.trans ?_ (Untouched.foldl _ (fun s c => takeStep_untouched c s) _ _)
    have h := settle_untouched s
    exact ⟨h.power, h.install, h.readSig, h.merge, by simp [h.time], h.results, h.port, h.emergency, h.pending⟩

/-! ### The order of the consumers -/

/-- R47: whatever a choice names, every consumer takes the event once. -/
theorem inOrder_perm : ∀ (order cs : List Consumer), (inOrder order cs).Perm cs
  | [], cs => .refl cs
  | c :: order, cs => by
    unfold inOrder
    split
    · rename_i h
      exact ((inOrder_perm order (cs.erase c)).cons c).trans
        (List.perm_cons_erase (List.contains_iff_mem.mp h)).symm
    · exact inOrder_perm order cs

/-- R47: a choice that names every consumer once gives the order. -/
theorem inOrder_of_perm : ∀ {order cs : List Consumer}, order.Perm cs → inOrder order cs = order
  | [], _, h => by simpa [inOrder] using h.symm.eq_nil
  | c :: order, cs, h => by
    have hc : c ∈ cs := h.mem_iff.mp (by simp)
    unfold inOrder
    rw [if_pos (List.contains_iff_mem.mpr hc), inOrder_of_perm (List.cons_perm_iff_perm_erase.mp h).2]

end Sys2Proof.Machine
end

