-- ==== Sys2Proof/Laws/Lists.lean ====
section
/-!
SUPPORT. The lemmas of the collections that the blocks keep: the Purchase Table, the key slots, the
Output Queues, the Billing Queue, the units on the ports out, the bytes of units.
-/
namespace Sys2Proof.Machine

/-! ### The Purchase Table -/

/-- A purchase of that number is in the table it was found in. -/
theorem purchaseOf_mem {s : State} {n : Nat} {p : Purchase} (h : purchaseOf s n = some p) :
    p ∈ s.ret.purchases :=
  List.mem_of_find?_eq_some h

/-- A purchase found by its number carries it. -/
theorem purchaseOf_number {s : State} {n : Nat} {p : Purchase} (h : purchaseOf s n = some p) :
    p.number = n := by
  simpa using List.find?_some h

/-- The first purchase of a number is the one that its number finds. -/
theorem find?_first {n : Nat} {p : Purchase} (hn : p.number = n) : ∀ {l : List Purchase} {i : Nat},
    l[i]? = some p → (∀ j y, j < i → l[j]? = some y → y.number ≠ n) →
      l.find? (fun q => q.number == n) = some p
  | [], _, h, _ => by simp at h
  | a :: l, 0, h, _ => by
    obtain rfl : a = p := by simpa using h
    simp [hn]
  | a :: l, i + 1, h, hf => by
    have ha : a.number ≠ n := hf 0 a (by omega) rfl
    simp only [List.find?_cons, beq_eq_false_iff_ne.mpr ha]
    exact find?_first hn (by simpa using h) fun j y hj hy => hf (j + 1) y (by omega) (by simpa using hy)

/-- A change of the purchase of a number changes the first one of that number, in its place, and no other. -/
theorem changePurchase_first {n : Nat} {p : Purchase} (f : Purchase → Purchase) (hn : p.number = n) :
    ∀ {l : List Purchase} {i : Nat}, l[i]? = some p →
      (∀ j y, j < i → l[j]? = some y → y.number ≠ n) → changePurchase n f l = l.set i (f p)
  | [], _, h, _ => by simp at h
  | a :: l, 0, h, _ => by
    obtain rfl : a = p := by simpa using h
    simp [changePurchase, hn]
  | a :: l, i + 1, h, hf => by
    have ha : a.number ≠ n := hf 0 a (by omega) rfl
    simp only [changePurchase, ha, if_false, List.set_cons_succ]
    rw [changePurchase_first f hn (by simpa using h) fun j y hj hy =>
      hf (j + 1) y (by omega) (by simpa using hy)]

@[simp] theorem changePurchase_length (n : Nat) (f : Purchase → Purchase) :
    ∀ l : List Purchase, (changePurchase n f l).length = l.length
  | [] => rfl
  | p :: l => by
    unfold changePurchase
    split
    · rfl
    · simp [changePurchase_length n f l]

/-- A change that keeps a field of every purchase keeps the table's list of that field. -/
theorem changePurchase_map {α : Type} (n : Nat) (f : Purchase → Purchase) (g : Purchase → α)
    (hg : ∀ p, g (f p) = g p) : ∀ l : List Purchase, (changePurchase n f l).map g = l.map g
  | [] => rfl
  | p :: l => by
    unfold changePurchase
    split
    · simp [hg]
    · simp [changePurchase_map n f g hg l]

/-- The end of a purchase that is live takes one entry from the table. -/
theorem eraseP_number_length {n : Nat} {l : List Purchase} {p : Purchase}
    (h : l.find? (fun q => q.number == n) = some p) :
    (l.eraseP (fun q => q.number == n)).length + 1 = l.length := by
  have hp : p ∈ l := List.mem_of_find?_eq_some h
  have hn : (p.number == n) = true := List.find?_some (p := fun q : Purchase => q.number == n) h
  have hlen := List.length_eraseP_of_mem (p := fun q : Purchase => q.number == n) hp hn
  have hpos : 0 < l.length := List.length_pos_of_mem hp
  omega

/-! ### The key slots -/

@[simp] theorem flushSlots_length (keep : KeySlot → Bool) (slots : List (Option KeySlot)) :
    (flushSlots keep slots).length = slots.length := by
  simp [flushSlots]

/-- A flush leaves exactly the LOADED slots that satisfy its test. -/
theorem some_mem_flushSlots (keep : KeySlot → Bool) (slots : List (Option KeySlot)) (k : KeySlot) :
    some k ∈ flushSlots keep slots ↔ some k ∈ slots ∧ keep k = true := by
  simp only [flushSlots, List.mem_map, Option.bind_eq_some_iff]
  constructor
  · rintro ⟨_, hm, k', rfl, hk⟩
    split at hk
    · cases hk
      exact ⟨hm, by assumption⟩
    · cases hk
  · rintro ⟨hm, hk⟩
    exact ⟨_, hm, k, rfl, by simp [hk]⟩

/-- R80 to R83: what a flush does to every slot. -/
theorem flushSlots_flushed {kept : KeySlot → Prop} {keep : KeySlot → Bool} (h : ∀ k, keep k = true ↔ kept k)
    (slots : List (Option KeySlot)) : SlotsFlushed kept slots (flushSlots keep slots) := by
  refine ⟨flushSlots_length keep slots, fun i hi => by simp [flushSlots, hi], fun i k hi =>
    ⟨fun hk => ?_, fun hk => ?_⟩⟩
  · simp [flushSlots, hi, (h k).mpr hk]
  · have hf : keep k = false := Bool.eq_false_iff.mpr fun e => hk ((h k).mp e)
    simp [flushSlots, hi, hf]

/-- A flush that keeps every LOADED slot leaves the slots as they are. -/
theorem SlotsFlushed.refl {kept : KeySlot → Prop} {slots : List (Option KeySlot)}
    (h : ∀ k, some k ∈ slots → kept k) : SlotsFlushed kept slots slots :=
  ⟨rfl, fun _ hi => hi, fun _ k hi =>
    ⟨fun _ => hi, fun hn => absurd (h k (List.mem_iff_getElem?.mpr ⟨_, hi⟩)) hn⟩⟩

/-- The test of a flush is read of each slot alone. -/
theorem SlotsFlushed.congr {kept kept' : KeySlot → Prop} {before after : List (Option KeySlot)}
    (h : SlotsFlushed kept before after) (hk : ∀ k, kept k ↔ kept' k) : SlotsFlushed kept' before after :=
  ⟨h.1, h.2.1, fun i k hi =>
    ⟨fun x => (h.2.2 i k hi).1 ((hk k).mpr x), fun x => (h.2.2 i k hi).2 fun y => x ((hk k).mp y)⟩⟩

/-- Two flushes keep the slots that both keep. -/
theorem SlotsFlushed.trans {kept kept' : KeySlot → Prop} {before mid after : List (Option KeySlot)}
    (h : SlotsFlushed kept before mid) (h' : SlotsFlushed kept' mid after) :
    SlotsFlushed (fun k => kept k ∧ kept' k) before after := by
  refine ⟨h'.1.trans h.1, fun i hi => h'.2.1 i (h.2.1 i hi), fun i k hi => ⟨fun x => ?_, fun x => ?_⟩⟩
  · exact (h'.2.2 i k ((h.2.2 i k hi).1 x.1)).1 x.2
  · by_cases hk : kept k
    · exact (h'.2.2 i k ((h.2.2 i k hi).1 hk)).2 fun y => x ⟨hk, y⟩
    · exact h'.2.1 i ((h.2.2 i k hi).2 hk)

@[simp] theorem markUsed_length (label : Nat) (slots : List (Option KeySlot)) :
    (markUsed label slots).length = slots.length := by
  simp [markUsed]

@[simp] theorem loadSlot_slots_length (i : Nat) (k : KeySlot) (s : State) :
    (loadSlot i k s).keys.slots.length = s.keys.slots.length := by
  simp [loadSlot]

/-- R76, R77: a placement loads one slot, or latches KEY TABLE FULL, or finds no slot to load. -/
theorem placeEntry_cases (e : KeyEntry) (s : State) :
    (∃ i k, placeEntry e s = loadSlot i k s)
      ∨ placeEntry e s = latch .keyTableFull s
      ∨ placeEntry e s = s := by
  unfold placeEntry
  dsimp only
  repeat' split
  all_goals first
    | exact .inl ⟨_, _, rfl⟩
    | exact .inr (.inl rfl)
    | exact .inr (.inr rfl)

/-! ### The Output Queues -/

@[simp] theorem purged_length (adm : Nat → Verdict) (out : Output) :
    (out.purged adm).queue.length = out.queue.length := by
  simp [Output.purged]

@[simp] theorem purged_selected (adm : Nat → Verdict) (out : Output) :
    (out.purged adm).selected = out.selected := rfl

@[simp] theorem purged_saved (adm : Nat → Verdict) (out : Output) :
    (out.purged adm).saved = out.saved := rfl

@[simp] theorem purged_viewed (adm : Nat → Verdict) (out : Output) :
    (out.purged adm).viewed = out.viewed := rfl

@[simp] theorem purged_transfer (adm : Nat → Verdict) (out : Output) :
    (out.purged adm).transfer = out.transfer := rfl

@[simp] theorem purged_ready (adm : Nat → Verdict) (out : Output) :
    (out.purged adm).ready = out.ready := rfl

/-- R167: after a purge a passed unit in the queue is one the admission admits. -/
theorem purged_admitted (adm : Nat → Verdict) (out : Output) {q : QueuedUnit}
    (hq : q ∈ (out.purged adm).queue) (hp : q.verdict.passes = true) :
    (adm q.unit.label.toNat).passes = true := by
  simp only [Output.purged, List.mem_map] at hq
  obtain ⟨q₀, _, rfl⟩ := hq
  by_cases hh : purgeHits adm q₀ = true
  · simp only [purgeUnit, hh, if_true] at hp ⊢
    simpa [CarriageUnit.blank] using hp
  · simp only [purgeUnit, hh] at hp ⊢
    have hv : q₀.verdict.passes = true := by simpa using hp
    simpa [purgeHits, hv] using hh

/-- R165: gating leaves the queue within its capacity. -/
theorem gated_length {out : Output} (h : out.queue.length ≤ 32) (u : CarriageUnit) (stamp : BitVec 24)
    (payload : List Byte) (verdict : Verdict) :
    (out.gated u stamp payload verdict).queue.length ≤ 32 := by
  unfold Output.gated
  split
  · simp; omega
  · exact h

/-! ### The Billing Queue -/

/-- R154: a receipt leaves the newest records of the queue. -/
theorem newerThan_suffix (serial : Nat) : ∀ l : List BillingRecord, newerThan serial l <:+ l
  | [] => List.suffix_refl _
  | r :: l => by
    unfold newerThan
    split
    · exact List.suffix_cons r l
    · exact (newerThan_suffix serial l).trans (List.suffix_cons r l)

@[simp] theorem markOffered_length (serial : Nat) (l : List BillingRecord) :
    (markOffered serial l).length = l.length := by
  simp [markOffered]

/-- R153: a mark leaves the serials as they are. -/
theorem markOffered_serials (serial : Nat) (l : List BillingRecord) :
    (markOffered serial l).map (·.serial) = l.map (·.serial) := by
  simp only [markOffered, List.map_map]
  apply List.map_congr_left
  intro r _
  simp only [Function.comp]
  split <;> rfl

/-! ### The units on the ports out -/

/-- R32, R166: the byte at a port, and where the unit-start indication marks it. -/
theorem Sending.atPort_eq (x : Sending) :
    x.atPort = (x.bytes[x.sent]?).map fun b => { byte := b, unitStart := decide (x.sent = 0) } := by
  simp only [Sending.atPort, Sending.marked, List.getElem?_map, List.getElem?_zipIdx, Option.map_map]
  cases x.bytes[x.sent]? <;> simp [Function.comp]

/-- R32, R166: at the beginning of a unit the byte at the port is the sync, marked as the unit's start. -/
theorem Sending.atPort_begun (u : CarriageUnit) (rest : List Byte) :
    ({ bytes := u.bytes ++ rest, sent := 0 } : Sending).atPort = some { byte := 0xB5, unitStart := true } :=
  rfl

/-- R32, R166: all that a microsecond can do to a unit that its port is sending. -/
theorem Sending.advance_onward (n : Nat) (x : Sending) (ready : Bool) :
    SentOnward ready x (if ready then x.advance n else x) := by
  cases ready with
  | false => exact ⟨rfl, fun _ => rfl, Nat.le_refl _, id⟩
  | true =>
    refine ⟨rfl, by simp, Nat.le_max_left _ _, fun h => ?_⟩
    simp only [Sending.advance, if_true]
    omega

/-- R32: all that a microsecond can do to the return port. -/
theorem ReturnPort.advance_cases (n : Nat) (p : ReturnPort) :
    (p.inProgress = none ∧ p.advance n = p)
      ∨ ∃ u v, p.inProgress = some u ∧ v.kind = u.kind ∧ SentOnward p.ready u.toSending v.toSending
        ∧ p.advance n = { p with inProgress := some v } := by
  cases h : p.inProgress with
  | none => exact .inl ⟨rfl, by cases p; simp_all [ReturnPort.advance]⟩
  | some u =>
    have hs := Sending.advance_onward n u.toSending p.ready
    refine .inr ⟨u, if p.ready then { u with toSending := u.toSending.advance n } else u, rfl, ?_, ?_,
      by simp [ReturnPort.advance, h]⟩
    · cases p.ready <;> rfl
    · cases hr : p.ready <;> simpa [hr] using hs

/-- R166: all that a microsecond can do to an Output Stage. -/
theorem Output.advance_cases (n : Nat) (out : Output) :
    (out.transfer = none ∧ out.advance n = out)
      ∨ ∃ x y, out.transfer = some x ∧ SentOnward out.ready x y
        ∧ out.advance n = { out with transfer := some y } := by
  cases h : out.transfer with
  | none => exact .inl ⟨rfl, by cases out; simp_all [Output.advance]⟩
  | some x => exact .inr ⟨x, _, rfl, Sending.advance_onward n x out.ready, by simp [Output.advance, h]⟩

/-! ### Bytes -/

@[simp] theorem beBytes_length (n v : Nat) : (beBytes n v).length = n := by
  induction n generalizing v with
  | zero => rfl
  | succ n ih => simp [beBytes, ih]

@[simp] theorem zeros_length (n : Nat) : (zeros n).length = n := by simp [zeros]

@[simp] theorem padPayload_length (bytes : List Byte) : (padPayload bytes).length = 124 := by
  simp [padPayload]

@[simp] theorem memoryBytes_length (memory : List Byte) : (memoryBytes memory).length = 68 := by
  simp [memoryBytes]

@[simp] theorem unit_bytes_length (u : CarriageUnit) : u.bytes.length = 4 + u.payload.length := by
  simp [CarriageUnit.bytes]; omega

@[simp] theorem images_length (size n : Nat) (bytes : List Byte) : (images size n bytes).length = n := by
  induction n generalizing bytes with
  | zero => rfl
  | succ n ih => simp [images, ih]

/-- R84: the payload handed on is as long as the payload received. -/
@[simp] theorem descrambleBytes_length (r : Register31) (bytes : List Byte) :
    (descrambleBytes r bytes).1.length = bytes.length := by
  induction bytes generalizing r with
  | nil => rfl
  | cons b l ih => simp [descrambleBytes, ih]

/-- §11.4: a key phase is read from the code it is written with. -/
@[simp] theorem keyPhaseOf_code (p : KeyPhase) : keyPhaseOf p.code = p := by
  cases p <;> rfl

/-- §11.4: a key phase is written with the code it was read from. -/
@[simp] theorem code_keyPhaseOf (c : BitVec 2) : (keyPhaseOf c).code = c := by
  revert c
  decide

end Sys2Proof.Machine
end

