-- ==== Sys2Proof/Laws/Purges.lean ====
section
/-!
SUPPORT. What several admission purges do together, what latching does, and what the end of every live
purchase does (`endAll_spec`).
-/
namespace Sys2Proof.Machine

/-! ### Alerts -/

theorem AlertSource.code_lt (src : AlertSource) : src.code < 16 := by cases src <;> decide

theorem AlertSource.code_inj {x y : AlertSource} (h : x.code = y.code) : x = y := by
  revert h; cases x <;> cases y <;> decide

theorem AlertSource.mask_bit (src x : AlertSource) : src.mask.getLsbD x.code = decide (x = src) := by
  have h : src.mask = BitVec.twoPow 16 src.code := BitVec.eq_of_toNat_eq (by simp [AlertSource.mask])
  rw [h, BitVec.getLsbD_twoPow]
  by_cases hx : x = src
  · simp [hx, src.code_lt]
  · have hc : src.code ≠ x.code := fun e => hx (AlertSource.code_inj e.symm)
    simp [hx, hc]

/-- R35: latching a source sets its flag and no other. -/
@[simp] theorem AlertUnit.isLatched_latch (a : AlertUnit) (src x : AlertSource) :
    (a.latch src).isLatched x = (a.isLatched x || decide (x = src)) := by
  simp [AlertUnit.isLatched, AlertUnit.latch, AlertSource.mask_bit]

@[simp] theorem AlertUnit.isLatched_latchIf (a : AlertUnit) (b : Bool) (src x : AlertSource) :
    (a.latchIf b src).isLatched x = (a.isLatched x || (b && decide (x = src))) := by
  cases b <;> simp [AlertUnit.isLatched, AlertUnit.latchIf, AlertSource.mask_bit]

/-! ### Purges -/

/-- R167: one purge of a queue. -/
theorem purged_queue (adm : Nat → Verdict) (out : Output) (i : Nat) :
    (out.purged adm).queue[i]? = (out.queue[i]?).map (purgeUnit adm) := by
  simp [Output.purged]

theorem purgeUnit_of_hit {adm : Nat → Verdict} {q : QueuedUnit} (h : purgeHits adm q = true) :
    purgeUnit adm q = { q with unit := q.unit.blank, verdict := adm q.unit.label.toNat } := by
  simp [purgeUnit, h]

theorem purgeUnit_of_miss {adm : Nat → Verdict} {q : QueuedUnit} (h : purgeHits adm q = false) :
    purgeUnit adm q = q := by simp [purgeUnit, h]

theorem purgeHits_iff (adm : Nat → Verdict) (q : QueuedUnit) : purgeHits adm q = true ↔
    q.verdict.passes = true ∧ (adm q.unit.label.toNat).passes = false := by simp [purgeHits]

/-- R167: a purge that hits nothing leaves the output as it is. -/
theorem purged_of_miss {adm : Nat → Verdict} {out : Output} (h : ∀ q ∈ out.queue, purgeHits adm q = false) :
    out.purged adm = out := by
  have hf : out.queue.filter (purgeHits adm) = [] := by simpa using h
  have hm : out.queue.map (purgeUnit adm) = out.queue :=
    (List.map_congr_left fun q hq => purgeUnit_of_miss (h q hq)).trans (List.map_id _)
  simp [Output.purged, hf, hm]

/-- R167: a purge that hits a unit blanks the output; its last verdict is that of the last unit hit. -/
theorem purged_of_hit {adm : Nat → Verdict} {out : Output} (h : ∃ q ∈ out.queue, purgeHits adm q = true) :
    ∃ (i : Nat) (q : QueuedUnit), out.queue[i]? = some q ∧ purgeHits adm q = true
      ∧ out.purged adm = { out with
        queue := (out.purged adm).queue
        entryWait := true
        state := .blanked
        last := adm q.unit.label.toNat } := by
  have hne : out.queue.filter (purgeHits adm) ≠ [] := by simpa using h
  obtain ⟨q, hq⟩ : ∃ q, (out.queue.filter (purgeHits adm)).getLast? = some q :=
    ⟨_, List.getLast?_eq_some_getLast hne⟩
  have hm := List.mem_filter.mp (List.mem_of_getLast? hq)
  obtain ⟨i, hi⟩ := List.mem_iff_getElem?.mp hm.1
  exact ⟨i, q, hi, hm.2, by simp [Output.purged, hq, hne]⟩

theorem OutputPurged.refl (adms : List (Nat → Verdict)) (out : Output) : OutputPurged adms out out :=
  ⟨⟨rfl, fun _ _ h => .inl h⟩, fun _ => rfl, fun h => absurd rfl h⟩

/-- R167: a place whose unit a purge changed held a passed unit and now holds a refused one. -/
theorem QueuePurged.changed {adms : List (Nat → Verdict)} {before after : List QueuedUnit}
    (h : QueuePurged adms before after) {i : Nat} {q : QueuedUnit} (hq : after[i]? = some q)
    (hne : before[i]? ≠ some q) :
    q.verdict.passes = false ∧ ∃ q₀, before[i]? = some q₀ ∧ q₀.verdict.passes = true := by
  have hlt : i < before.length := h.1 ▸ (List.getElem?_eq_some_iff.mp hq).1
  obtain ⟨q₀, h0⟩ : ∃ q₀, before[i]? = some q₀ := ⟨_, List.getElem?_eq_getElem hlt⟩
  rcases h.2 i q₀ h0 with e | ⟨hp, a, _, hr, e⟩
  · exact absurd (h0.trans (e.symm.trans hq)) hne
  · obtain rfl := Option.some.inj (e.symm.trans hq)
    exact ⟨hr, q₀, h0, hp⟩

/-- R167: purges of a queue that follow purges of it, each admission of which gives every label what one of
`adms` gives it. -/
theorem QueuePurged.trans {adms adms' : List (Nat → Verdict)} {before mid after : List QueuedUnit}
    (h : QueuePurged adms before mid) (k : QueuePurged adms' mid after)
    (ha : ∀ a' ∈ adms', ∀ n, ∃ a ∈ adms, a' n = a n) : QueuePurged adms before after := by
  refine ⟨k.1.trans h.1, fun i q hi => ?_⟩
  rcases h.2 i q hi with hm | ⟨hp, a, hmem, hr, hm⟩
  · rcases k.2 i q hm with hk | ⟨hp, a', hmem', hr', hk⟩
    · exact .inl hk
    · obtain ⟨a, hmem, hv⟩ := ha a' hmem' q.unit.label.toNat
      exact .inr ⟨hp, a, hmem, hv ▸ hr', hv ▸ hk⟩
  · rcases k.2 i _ hm with hk | ⟨hp', _⟩
    · exact .inr ⟨hp, a, hmem, hr, hk⟩
    · simp only [hr] at hp'
      cases hp'

/-- R132, R167: every field of an output that no purge changes. -/
theorem OutputPurged.frame {adms : List (Nat → Verdict)} {before after : Output}
    (h : OutputPurged adms before after) :
    after = { before with
      queue := after.queue, entryWait := after.entryWait, state := after.state, last := after.last } := by
  by_cases hs : after.queue = before.queue
  · rw [h.whole hs]
  · obtain ⟨_, _, _, _, e⟩ := h.blanked hs
    rw [e]

/-- R167: one purge. -/
theorem OutputPurged.single (adm : Nat → Verdict) (out : Output) :
    OutputPurged [adm] out (out.purged adm) := by
  have hq : QueuePurged [adm] out.queue (out.purged adm).queue := by
    refine ⟨by simp, fun i q hi => ?_⟩
    rw [purged_queue, hi, Option.map_some]
    by_cases hh : purgeHits adm q = true
    · have hb := (purgeHits_iff adm q).mp hh
      exact .inr ⟨hb.1, adm, by simp, hb.2, by rw [purgeUnit_of_hit hh]; rfl⟩
    · exact .inl (by rw [purgeUnit_of_miss (by simpa using hh)])
  by_cases hh : ∃ q ∈ out.queue, purgeHits adm q = true
  · obtain ⟨i, q, hi, hhit, he⟩ := purged_of_hit hh
    have hb := (purgeHits_iff adm q).mp hhit
    have hnew : (out.purged adm).queue[i]? =
        some { q with unit := q.unit.blank, verdict := adm q.unit.label.toNat } := by
      rw [purged_queue, hi, Option.map_some, purgeUnit_of_hit hhit]
    have hold : out.queue[i]? ≠
        some { q with unit := q.unit.blank, verdict := adm q.unit.label.toNat } := by
      intro hc
      have hv := congrArg (·.verdict.passes) (Option.some.inj (hi.symm.trans hc))
      simp [hb.1, hb.2] at hv
    exact ⟨hq, fun e => absurd (e ▸ hnew) hold, fun _ => ⟨i, _, hnew, hold, he⟩⟩
  · rw [purged_of_miss fun q hm => Bool.eq_false_iff.mpr fun hc => hh ⟨q, hm, hc⟩]
    exact .refl _ _

/-- R167: purges that follow purges, each admission of which gives every label what one of `adms` gives it. -/
theorem OutputPurged.trans {adms adms' : List (Nat → Verdict)} {before mid after : Output}
    (h : OutputPurged adms before mid) (k : OutputPurged adms' mid after)
    (ha : ∀ a' ∈ adms', ∀ n, ∃ a ∈ adms, a' n = a n) : OutputPurged adms before after := by
  refine ⟨h.queue.trans k.queue ha, fun e => ?_, fun hne => ?_⟩
  · have hmid : mid.queue = before.queue := by
      apply List.ext_getElem?
      intro i
      by_cases hc : mid.queue[i]? = before.queue[i]?
      · exact hc
      · cases hm : mid.queue[i]? with
        | none =>
          have : before.queue[i]? = none := by
            rw [List.getElem?_eq_none_iff, ← h.queue.1]; exact List.getElem?_eq_none_iff.mp hm
          rw [this]
        | some q =>
          have hb : before.queue[i]? ≠ some q := fun x => hc (hm.trans x.symm)
          have hr := (h.queue.changed hm hb).1
          rcases k.queue.2 i q hm with hk | ⟨hp, _⟩
          · exact absurd (e ▸ hk) hb
          · rw [hr] at hp
            cases hp
    rw [k.whole (e.trans hmid.symm), h.whole hmid]
  · by_cases hk : after.queue = mid.queue
    · rw [k.whole hk] at hne ⊢
      exact h.blanked hne
    · obtain ⟨i, q, hi, hm, e⟩ := k.blanked hk
      obtain ⟨hr, q₀, h0, hp⟩ := k.queue.changed hi hm
      refine ⟨i, q, hi, fun hb => ?_, by rw [e, h.frame]⟩
      rcases h.queue.2 i q hb with hx | ⟨hp', _⟩
      · exact hm hx
      · rw [hr] at hp'
        cases hp'

/-- R167: one more purge, under an admission that gives every label what one of `adms` gives it. -/
theorem OutputPurged.purged {adms : List (Nat → Verdict)} {before mid : Output} {adm : Nat → Verdict}
    (h : OutputPurged adms before mid) (ha : ∀ n, ∃ a ∈ adms, adm n = a n) :
    OutputPurged adms before (mid.purged adm) :=
  h.trans (.single adm mid) (by simpa using ha)

/-- R167: after a purge no passed unit waits that its admission refuses. -/
theorem purge_admitted (s : State) :
    PassedAdmitted (purge s) (purge s).outA ∧ PassedAdmitted (purge s) (purge s).outB :=
  ⟨fun _ hq hp => purged_admitted (admissionOf s) s.outA hq hp,
    fun _ hq hp => purged_admitted (admissionOf s) s.outB hq hp⟩

/-! ### Admission -/

/-- R162: what the admission of a label reads of the part. -/
theorem admissionOf_congr {s t : State} {n : Nat} (he : s.emergency = t.emergency)
    (hs : s.svc.active = t.svc.active) (hg : guest s = guest t) (hb : s.time.building = t.time.building)
    (hl : s.lock.state.isUnlocked = t.lock.state.isUnlocked)
    (hf : ∀ r, serviceRow t n = some r → isBought s r.film = isBought t r.film) :
    admissionOf s n = admissionOf t n := by
  have hr : serviceRow s n = serviceRow t n := by simp [serviceRow, hs]
  have hlt (c : Nat) : lockTest s c = lockTest t c := by simp [lockTest, restricted, hg, hb, hl]
  have hp (k : Nat) : holdsPackage s k = holdsPackage t k := by simp [holdsPackage, hg]
  unfold admissionOf
  rw [he, hr]
  cases h : serviceRow t n with
  | none => rfl
  | some r => simp [admitRow, hlt, hp, hf r h]

/-- R162: purchases that are some of those of `s` and all of those of `t` admit a label as `s` or `t` does. -/
theorem admissionOf_between {s u t : State} (n : Nat) (he : u.emergency = s.emergency ∧ t.emergency = s.emergency)
    (hs : u.svc.active = s.svc.active ∧ t.svc.active = s.svc.active) (hg : guest u = guest s ∧ guest t = guest s)
    (hb : u.time.building = s.time.building ∧ t.time.building = s.time.building)
    (hl : u.lock.state.isUnlocked = s.lock.state.isUnlocked ∧ t.lock.state.isUnlocked = s.lock.state.isUnlocked)
    (hf : ∀ f, isBought u f = isBought s f ∨ isBought u f = isBought t f) :
    ∃ a ∈ [admissionOf s, admissionOf t], admissionOf u n = a n := by
  have hr : serviceRow t n = serviceRow s n := by simp [serviceRow, hs.2]
  cases h : serviceRow s n with
  | none =>
    exact ⟨_, by simp, admissionOf_congr he.1 hs.1 hg.1 hb.1 hl.1 (by simp [h])⟩
  | some r =>
    rcases hf r.film with hx | hx
    · exact ⟨admissionOf s, by simp, admissionOf_congr he.1 hs.1 hg.1 hb.1 hl.1 (by simpa [h] using hx)⟩
    · refine ⟨admissionOf t, by simp, admissionOf_congr (he.1.trans he.2.symm) (hs.1.trans hs.2.symm)
        (hg.1.trans hg.2.symm) (hb.1.trans hb.2.symm) (hl.1.trans hl.2.symm) ?_⟩
      rw [hr, h]
      simpa using hx

end Sys2Proof.Machine
end

