-- ==== Sys2Proof/Laws/Ends.lean ====
section
/-!
SUPPORT. What the end of every live purchase does (R143, R145), as one lemma: `endAll_spec`.
-/
namespace Sys2Proof.Machine

/-- What one event that ends every live purchase with a reason does to the part. -/
structure EndsAll (reason : EndReason) (s t : State) : Prop where
  ended : AllEnded reason s t
  ret : t.ret = { s.ret with
    purchases := [], records := t.ret.records, nextSerial := t.ret.nextSerial }
  keys : SlotsFlushed
    (fun k => ∀ row, serviceRow s k.label = some row → row.access = .film →
      ∀ p ∈ s.ret.purchases, row.film ≠ p.film)
    s.keys.slots t.keys.slots
  latched : ∀ src, t.alerts.isLatched src = true ↔ s.alerts.isLatched src = true
    ∨ (src = .purchaseEnded ∧ s.ret.purchases ≠ [])
    ∨ (src = .billingHigh ∧ PostsReachBillingHigh s s.ret.records.length s.ret.purchases.length)
  outA : OutputPurged [admissionOf s, admissionOf t] s.outA t.outA
  outB : OutputPurged [admissionOf s, admissionOf t] s.outB t.outB
  refused : s.ret.purchases ≠ [] → PassedAdmitted t t.outA ∧ PassedAdmitted t t.outB
  whole : s.ret.purchases = [] → t = s
  rest : t = { s with
    ret := t.ret
    offer := t.offer
    keys := { s.keys with slots := t.keys.slots }
    outA := t.outA
    outB := t.outB
    alerts := { s.alerts with latched := t.alerts.latched } }

theorem keptByEnd_iff (s : State) (film : Nat) (k : KeySlot) : keptByEnd s film k = true ↔
    ∀ row, serviceRow s k.label = some row → row.access = .film → row.film ≠ film := by
  unfold keptByEnd
  cases serviceRow s k.label with
  | none => simp
  | some r => simp [or_iff_not_imp_left]

/-- R143: the end of the oldest purchase. -/
theorem endPurchase_head {s : State} {p : Purchase} {rest : List Purchase} (reason : EndReason)
    (h : s.ret.purchases = p :: rest) :
    endPurchase p.number reason s =
      purchaseEnded p.film (latch .purchaseEnded
        { post (.ended reason p.total) p.number p.film s with
          ret := { (post (.ended reason p.total) p.number p.film s).ret with purchases := rest } }) := by
  have hp : purchaseOf s p.number = some p := by simp [purchaseOf, h]
  have he : s.ret.purchases.eraseP (fun q => q.number == p.number) = rest := by simp [h]
  unfold endPurchase
  rw [hp]
  show purchaseEnded _ (latch _ { post _ _ _ s with ret := { (post _ _ _ s).ret with
    purchases := s.ret.purchases.eraseP (fun q => q.number == p.number) } }) = _
  rw [he]

/-- R156: one post, and `k` after it. -/
theorem postsReach_succ {s u : State} (hs : u.alerts.sense = s.alerts.sense) (hi : u.install = s.install)
    (n k : Nat) : PostsReachBillingHigh s n (k + 1) ↔
      billingHighLatches s n (n + 1) = true ∨ PostsReachBillingHigh u (n + 1) k := by
  unfold PostsReachBillingHigh billingHighLatches
  rw [hs, hi]
  cases s.alerts.sense <;> simp [risingCrossing, fallingCrossing] <;> omega

/-- R143, R145: what `endAll` does. -/
theorem endAll_spec (reason : EndReason) (s : State) : EndsAll reason s (endAll reason s) := by
  unfold endAll
  generalize hl : s.ret.purchases = l
  induction l generalizing s with
  | nil =>
    refine ⟨⟨hl, by simp, by simp [hl], by simp [hl], by simp [hl], by simp, by simp [hl]⟩, ?_, ?_, ?_, .refl _ _, .refl _ _,
      fun h => absurd hl h, fun _ => rfl, rfl⟩
    · simp only [List.map_nil, List.foldl_nil]
      rw [← hl]
    · exact .refl fun _ _ => by simp [hl]
    · simp [hl, PostsReachBillingHigh]
  | cons p rest ih =>
    simp only [List.map_cons, List.foldl_cons]
    have hu := endPurchase_head reason hl
    generalize hue : endPurchase p.number reason s = u at hu
    have hrest : u.ret.purchases = rest := by rw [hu]; rfl
    have k := ih u hrest
    generalize (rest.map (·.number)).foldl (fun s n => endPurchase n reason s) u = t at k
    have hrec : u.ret.records = s.ret.records ++ [newRecord s (.ended reason p.total) p.number p.film] := by
      rw [hu]; rfl
    have hser : u.ret.nextSerial = nextSerialAfter s.ret.nextSerial := by rw [hu]; rfl
    have hoff : u.offer = some (s.offer.getD s.ret.nextSerial) := by
      rw [hu]
      show (match s.offer with | some x => some x | none => some s.ret.nextSerial) = _
      cases s.offer <;> rfl
    have hins : u.install = s.install := by rw [hu]; rfl
    have htins : t.install = s.install := by rw [k.rest]; exact hins
    have htime : u.time = s.time := by rw [hu]; rfl
    have hact : u.ret.active = s.ret.active := by rw [hu]; rfl
    have hsvc : u.svc = s.svc := by rw [hu]; rfl
    have hsense : u.alerts.sense = s.alerts.sense := by rw [hu]; rfl
    have hret : u.ret = { s.ret with
        purchases := rest, records := u.ret.records, nextSerial := u.ret.nextSerial } := by rw [hu]; rfl
    have hrow (n : Nat) : serviceRow u n = serviceRow s n := by simp [serviceRow, hsvc]
    have hfr : u = { s with
        ret := u.ret, offer := u.offer, keys := { s.keys with slots := u.keys.slots }
        outA := u.outA, outB := u.outB, alerts := { s.alerts with latched := u.alerts.latched } } := by
      rw [hu]; rfl
    have htret := k.ret
    have hdrop : t.ret.records.drop s.ret.records.length =
        newRecord s (.ended reason p.total) p.number p.film :: t.ret.records.drop u.ret.records.length := by
      have h1 := List.take_append_drop u.ret.records.length t.ret.records
      rw [k.ended.kept] at h1
      conv_lhs => rw [← h1, hrec]
      simp [hrec]
    have hlen : u.ret.records.length = s.ret.records.length + 1 := by simp [hrec]
    have hsl : u.keys.slots = flushSlots (keptByEnd u p.film) s.keys.slots := by rw [hu]; rfl
    have hpurgeA : u.outA = s.outA.purged (admissionOf u) := by rw [hu]; rfl
    have hpurgeB : u.outB = s.outB.purged (admissionOf u) := by rw [hu]; rfl
    have hadmitted : PassedAdmitted u u.outA ∧ PassedAdmitted u u.outB := by
      rw [hu]; exact purge_admitted _
    have hbetween (n : Nat) : ∃ a ∈ [admissionOf s, admissionOf t], admissionOf u n = a n := by
      refine admissionOf_between n ?_ ?_ ?_ ?_ ?_ fun f => ?_
      · rw [k.rest, hfr]; exact ⟨rfl, rfl⟩
      · rw [k.rest, hfr]; exact ⟨rfl, rfl⟩
      · have h1 : u.ret.tenancy = s.ret.tenancy := congrArg (·.tenancy) hret
        have h2 : t.ret.tenancy = u.ret.tenancy := congrArg (·.tenancy) htret
        have h3 : t.ret.active = u.ret.active := congrArg (·.active) htret
        constructor <;> simp only [guest, h1, h2, h3, hact]
      · rw [k.rest, hfr]; exact ⟨rfl, rfl⟩
      · rw [k.rest, hfr]; exact ⟨rfl, rfl⟩
      · have ht : isBought t f = false := by simp [isBought, k.ended.purchases]
        have hs' : isBought s f = (p.film == f || isBought u f) := by simp [isBought, hl, hrest]
        cases h : isBought u f with
        | false => exact .inr ht.symm
        | true => exact .inl (by simp [hs', h])
    have htrans {a b c : Output} (h : b = a.purged (admissionOf u))
        (h' : OutputPurged [admissionOf u, admissionOf t] b c) :
        OutputPurged [admissionOf s, admissionOf t] a c := by
      refine (OutputPurged.refl _ a).purged hbetween |>.trans (h ▸ h') ?_
      intro a' ha' n
      rcases List.mem_cons.mp ha' with rfl | ha'
      · exact hbetween n
      · exact ⟨a', List.mem_cons_of_mem _ ha', rfl⟩
    refine ⟨⟨k.ended.purchases, ?_, ?_, ?_, ?_, ?_, ?_⟩, ?_, ?_, fun src => ?_,
      htrans hpurgeA k.outA, htrans hpurgeB k.outB, fun _ => ?_, fun h => absurd (hl.symm.trans h) (by simp), ?_⟩
    · have h1 := k.ended.kept
      rw [hlen] at h1
      have h2 := congrArg (List.take s.ret.records.length) h1
      rw [List.take_take, hrec] at h2
      simpa using h2
    · rw [hdrop, List.map_cons, k.ended.posted, hrest, hl]; rfl
    · rw [hdrop, List.map_cons, k.ended.serials, hrest, hl, hser, List.length_cons, List.range_succ_eq_map]
      simp only [List.map_cons, List.map_map]
      exact congrArg₂ _ rfl (List.map_congr_left fun n _ => (Function.iterate_succ_apply _ _ _).symm)
    · rw [k.ended.nextSerial, hrest, hl, hser, List.length_cons, Function.iterate_succ_apply]
    · intro r hr
      rw [hdrop, List.mem_cons] at hr
      rcases hr with rfl | hr
      · exact ⟨congrArg (·.room) htins.symm, rfl, rfl, rfl, rfl, rfl⟩
      · have := k.ended.stamped r hr
        rwa [hact, htime] at this
    · rw [k.ended.offer, hoff, hl]; simp
    · rw [htret, hret]
    · have h1 := flushSlots_flushed (keptByEnd_iff u p.film) s.keys.slots
      rw [← hsl] at h1
      refine (h1.trans k.keys).congr fun x => ?_
      rw [hl, hrest]
      simp only [hrow, List.mem_cons, forall_eq_or_imp]
      exact ⟨fun y row hr hf => ⟨y.1 row hr hf, y.2 row hr hf⟩,
        fun y => ⟨fun row hr hf => (y row hr hf).1, fun row hr hf => (y row hr hf).2⟩⟩
    · rw [k.latched, hlen, hrest, hl, List.length_cons, postsReach_succ hsense hins]
      have hx : u.alerts.isLatched src = (s.alerts.isLatched src
          || (billingHighLatches s s.ret.records.length (s.ret.records.length + 1) && decide (src = .billingHigh))
          || decide (src = .purchaseEnded)) := by
        rw [hu]
        show ((s.alerts.latchIf _ .billingHigh).latch .purchaseEnded).isLatched src = _
        simp
      rw [hx]
      simp only [Bool.or_eq_true, Bool.and_eq_true, decide_eq_true_eq]
      have hne : p :: rest ≠ [] := by simp
      simp only [ne_eq, hne, not_false_eq_true, and_true]
      tauto
    · by_cases hr : rest = []
      · rw [k.whole (hrest.trans hr)]; exact hadmitted
      · exact k.refused (by rwa [hrest])
    · conv_lhs => rw [k.rest, hfr]

end Sys2Proof.Machine
end

