-- ==== Sys2Proof/Laws/Queue.lean ====
section
/-!
SUPPORT. No operation of the part reads or writes the queue of waiting commands: what it reads is the same
under another queue, and what it leaves is the same with that queue (`State.onQueue`). A command is then
one of the `_onQueue` forms at the end with the lemma of its operation.
-/
namespace Sys2Proof.Machine

/-- The part with another queue of waiting commands. -/
def State.onQueue (q : List Instr) (s : State) : State := { s with pending := q }

/-! ### What is read -/

@[simp] theorem onQueue_power (q : List Instr) (s : State) : (s.onQueue q).power = s.power := rfl
@[simp] theorem onQueue_ret (q : List Instr) (s : State) : (s.onQueue q).ret = s.ret := rfl
@[simp] theorem onQueue_install (q : List Instr) (s : State) : (s.onQueue q).install = s.install := rfl
@[simp] theorem onQueue_readSig (q : List Instr) (s : State) : (s.onQueue q).readSig = s.readSig := rfl
@[simp] theorem onQueue_merge (q : List Instr) (s : State) : (s.onQueue q).merge = s.merge := rfl
@[simp] theorem onQueue_time (q : List Instr) (s : State) : (s.onQueue q).time = s.time := rfl
@[simp] theorem onQueue_results (q : List Instr) (s : State) : (s.onQueue q).results = s.results := rfl
@[simp] theorem onQueue_port (q : List Instr) (s : State) : (s.onQueue q).port = s.port := rfl
@[simp] theorem onQueue_alerts (q : List Instr) (s : State) : (s.onQueue q).alerts = s.alerts := rfl
@[simp] theorem onQueue_svc (q : List Instr) (s : State) : (s.onQueue q).svc = s.svc := rfl
@[simp] theorem onQueue_tar (q : List Instr) (s : State) : (s.onQueue q).tar = s.tar := rfl
@[simp] theorem onQueue_keys (q : List Instr) (s : State) : (s.onQueue q).keys = s.keys := rfl
@[simp] theorem onQueue_lock (q : List Instr) (s : State) : (s.onQueue q).lock = s.lock := rfl
@[simp] theorem onQueue_closing (q : List Instr) (s : State) : (s.onQueue q).closing = s.closing := rfl
@[simp] theorem onQueue_outA (q : List Instr) (s : State) : (s.onQueue q).outA = s.outA := rfl
@[simp] theorem onQueue_outB (q : List Instr) (s : State) : (s.onQueue q).outB = s.outB := rfl
@[simp] theorem onQueue_emergency (q : List Instr) (s : State) : (s.onQueue q).emergency = s.emergency := rfl
@[simp] theorem onQueue_offer (q : List Instr) (s : State) : (s.onQueue q).offer = s.offer := rfl
@[simp] theorem onQueue_model (q : List Instr) (s : State) : (s.onQueue q).model = s.model := rfl
@[simp] theorem onQueue_live (q : List Instr) (s : State) : live (s.onQueue q) = live s := rfl
@[simp] theorem onQueue_running (q : List Instr) (s : State) : running (s.onQueue q) = running s := rfl
@[simp] theorem onQueue_serviceRow (q : List Instr) (s : State) (n) :
    serviceRow (s.onQueue q) n = serviceRow s n := rfl
@[simp] theorem onQueue_tariffOf (q : List Instr) (s : State) (r) :
    tariffOf (s.onQueue q) r = tariffOf s r := rfl
@[simp] theorem onQueue_machine (q : List Instr) (s : State) (t) :
    machine (s.onQueue q) t = machine s t := rfl
@[simp] theorem onQueue_output (q : List Instr) (s : State) (o) : output (s.onQueue q) o = output s o := rfl
@[simp] theorem onQueue_isSelected (q : List Instr) (s : State) (n) :
    isSelected (s.onQueue q) n = isSelected s n := rfl
@[simp] theorem onQueue_shedAfter (q : List Instr) (s : State) :
    shedAfter (s.onQueue q) = shedAfter s := rfl
@[simp] theorem onQueue_shedEnds (q : List Instr) (s : State) : shedEnds (s.onQueue q) = shedEnds s := rfl
@[simp] theorem onQueue_localEligible (q : List Instr) (s : State) :
    localEligible (s.onQueue q) = localEligible s := rfl
@[simp] theorem onQueue_feedHead (q : List Instr) (s : State) : feedHead (s.onQueue q) = feedHead s := rfl
@[simp] theorem onQueue_localHead (q : List Instr) (s : State) :
    localHead (s.onQueue q) = localHead s := rfl
@[simp] theorem onQueue_guest (q : List Instr) (s : State) : guest (s.onQueue q) = guest s := rfl
@[simp] theorem onQueue_holdsPackage (q : List Instr) (s : State) (n) :
    holdsPackage (s.onQueue q) n = holdsPackage s n := rfl
@[simp] theorem onQueue_isBought (q : List Instr) (s : State) (n) :
    isBought (s.onQueue q) n = isBought s n := rfl
@[simp] theorem onQueue_lockTest (q : List Instr) (s : State) (n) :
    lockTest (s.onQueue q) n = lockTest s n := rfl
@[simp] theorem onQueue_admissionOf (q : List Instr) (s : State) :
    admissionOf (s.onQueue q) = admissionOf s := rfl
@[simp] theorem onQueue_slotOk (q : List Instr) (s : State) : slotOk (s.onQueue q) = slotOk s := rfl
@[simp] theorem onQueue_keptByRecord (q : List Instr) (s : State) :
    keptByRecord (s.onQueue q) = keptByRecord s := rfl
@[simp] theorem onQueue_keptByEnd (q : List Instr) (s : State) (n) :
    keptByEnd (s.onQueue q) n = keptByEnd s n := rfl
@[simp] theorem onQueue_billingHighLatches (q : List Instr) (s : State) (a b) :
    billingHighLatches (s.onQueue q) a b = billingHighLatches s a b := rfl
@[simp] theorem onQueue_newRecord (q : List Instr) (s : State) (e a b) :
    newRecord (s.onQueue q) e a b = newRecord s e a b := rfl
@[simp] theorem onQueue_purchaseOf (q : List Instr) (s : State) (n) :
    purchaseOf (s.onQueue q) n = purchaseOf s n := rfl
@[simp] theorem onQueue_allowance (q : List Instr) (s : State) :
    allowance (s.onQueue q) = allowance s := rfl
@[simp] theorem onQueue_chargeFate (q : List Instr) (s : State) (n) :
    chargeFate (s.onQueue q) n = chargeFate s n := rfl
@[simp] theorem onQueue_isViewed (q : List Instr) (s : State) (n) :
    isViewed (s.onQueue q) n = isViewed s n := rfl
@[simp] theorem onQueue_membershipNow (q : List Instr) (s : State) :
    membershipNow (s.onQueue q) = membershipNow s := rfl
@[simp] theorem onQueue_activates (q : List Instr) (s : State) (t) :
    activates (s.onQueue q) t = activates s t := rfl
@[simp] theorem onQueue_allOffered (q : List Instr) (s : State) :
    allOffered (s.onQueue q) = allOffered s := rfl
@[simp] theorem onQueue_billingDayAtCompletion (q : List Instr) (s : State) :
    billingDayAtCompletion (s.onQueue q) = billingDayAtCompletion s := rfl
@[simp] theorem onQueue_timeoutReached (q : List Instr) (s : State) :
    timeoutReached (s.onQueue q) = timeoutReached s := rfl
@[simp] theorem onQueue_nextChoice (q : List Instr) (s : State) :
    nextChoice (s.onQueue q) = nextChoice s := rfl
@[simp] theorem onQueue_conditionSet (q : List Instr) (s : State) :
    conditionSet (s.onQueue q) = conditionSet s := rfl
@[simp] theorem onQueue_clearedFlags (q : List Instr) (s : State) (n) :
    clearedFlags (s.onQueue q) n = clearedFlags s n := rfl
@[simp] theorem onQueue_accepts (q : List Instr) (s : State) (e) :
    accepts (s.onQueue q) e = accepts s e := rfl
@[simp] theorem onQueue_isCandidate (q : List Instr) (s : State) :
    isCandidate (s.onQueue q) = isCandidate s := rfl
@[simp] theorem onQueue_chosenSlot (q : List Instr) (s : State) :
    chosenSlot (s.onQueue q) = chosenSlot s := rfl
@[simp] theorem onQueue_insertReady (q : List Instr) (s : State) :
    insertReady (s.onQueue q) = insertReady s := rfl
@[simp] theorem onQueue_newPurchase (q : List Instr) (s : State) (r) :
    newPurchase (s.onQueue q) r = newPurchase s r := rfl
@[simp] theorem onQueue_lockRefusal (q : List Instr) (s : State) (r) :
    lockRefusal (s.onQueue q) r = lockRefusal s r := rfl
@[simp] theorem onQueue_overLimit (q : List Instr) (s : State) (r) :
    overLimit (s.onQueue q) r = overLimit s r := rfl
@[simp] theorem onQueue_filmRefusal (q : List Instr) (s : State) (r) :
    filmRefusal (s.onQueue q) r = filmRefusal s r := rfl
@[simp] theorem onQueue_portFree (q : List Instr) (s : State) : portFree (s.onQueue q) = portFree s := rfl
@[simp] theorem onQueue_kindInProgress (q : List Instr) (s : State) :
    kindInProgress (s.onQueue q) = kindInProgress s := rfl
@[simp] theorem onQueue_offeredRecord (q : List Instr) (s : State) :
    offeredRecord (s.onQueue q) = offeredRecord s := rfl
@[simp] theorem onQueue_trailerOption (q : List Instr) (s : State) (o) :
    trailerOption (s.onQueue q) o = trailerOption s o := rfl
@[simp] theorem onQueue_verdictOfRestored (q : List Instr) (s : State) (n) :
    verdictOfRestored (s.onQueue q) n = verdictOfRestored s n := rfl
@[simp] theorem onQueue_verdictOfGiven (q : List Instr) (s : State) (n) :
    verdictOfGiven (s.onQueue q) n = verdictOfGiven s n := rfl
@[simp] theorem onQueue_hasOpenRow (q : List Instr) (s : State) (n) :
    hasOpenRow (s.onQueue q) n = hasOpenRow s n := rfl
@[simp] theorem onQueue_sessionExpires (q : List Instr) (s : State) :
    sessionExpires (s.onQueue q) = sessionExpires s := rfl
@[simp] theorem onQueue_lockoutExpires (q : List Instr) (s : State) :
    lockoutExpires (s.onQueue q) = lockoutExpires s := rfl
@[simp] theorem onQueue_viewBody (q : List Instr) (s : State) (v) :
    viewBody (s.onQueue q) v = viewBody s v := rfl
@[simp] theorem onQueue_meterOwes_graceEnds (q : List Instr) (s : State) :
    meterOwes graceEnds (s.onQueue q) = meterOwes graceEnds s := rfl
@[simp] theorem onQueue_meterOwes_graceLapses (q : List Instr) (s : State) :
    meterOwes graceLapses (s.onQueue q) = meterOwes graceLapses s := rfl
@[simp] theorem onQueue_meterOwes_repetitionEnds (q : List Instr) (s : State) :
    meterOwes repetitionEnds (s.onQueue q) = meterOwes repetitionEnds s := rfl
@[simp] theorem onQueue_verdictFor (q : List Instr) (s : State) (u a b) :
    verdictFor (s.onQueue q) u a b = verdictFor s u a b := rfl

/-! ### What is left -/

/-- A fold of operations that each keep to the queue they are given keeps to it. -/
theorem foldl_onQueue {α : Type} (q : List Instr) (f : State → α → State)
    (hf : ∀ s a, f (s.onQueue q) a = (f s a).onQueue q) :
    ∀ (l : List α) (s : State), l.foldl f (s.onQueue q) = (l.foldl f s).onQueue q
  | [], s => rfl
  | a :: l, s => by simp only [List.foldl_cons, hf]; exact foldl_onQueue q f hf l _

@[simp] theorem onQueue_latch (q : List Instr) (s : State) (x) :
    latch x (s.onQueue q) = (latch x s).onQueue q := rfl
@[simp] theorem onQueue_evalShed (q : List Instr) (s : State) :
    evalShed (s.onQueue q) = (evalShed s).onQueue q := rfl
@[simp] theorem onQueue_tookFeed (q : List Instr) (s : State) :
    tookFeed (s.onQueue q) = (tookFeed s).onQueue q := rfl
@[simp] theorem onQueue_tookLocal (q : List Instr) (s : State) :
    tookLocal (s.onQueue q) = (tookLocal s).onQueue q := rfl
@[simp] theorem onQueue_pushResult (q : List Instr) (s : State) (r) :
    pushResult r (s.onQueue q) = (pushResult r s).onQueue q := rfl
@[simp] theorem onQueue_withMachine (q : List Instr) (s : State) (t m) :
    withMachine t m (s.onQueue q) = (withMachine t m s).onQueue q := rfl
@[simp] theorem onQueue_withOutput (q : List Instr) (s : State) (o out) :
    withOutput o out (s.onQueue q) = (withOutput o out s).onQueue q := rfl
@[simp] theorem onQueue_dropReferences (q : List Instr) (s : State) (l) :
    dropReferences l (s.onQueue q) = (dropReferences l s).onQueue q := rfl
@[simp] theorem onQueue_purge (q : List Instr) (s : State) :
    purge (s.onQueue q) = (purge s).onQueue q := rfl
@[simp] theorem onQueue_flushKeys (q : List Instr) (s : State) (k) :
    flushKeys k (s.onQueue q) = (flushKeys k s).onQueue q := rfl
@[simp] theorem onQueue_flushAtClosing (q : List Instr) (s : State) :
    flushAtClosing (s.onQueue q) = (flushAtClosing s).onQueue q := rfl
@[simp] theorem onQueue_post (q : List Instr) (s : State) (e n f) :
    post e n f (s.onQueue q) = (post e n f s).onQueue q := rfl
@[simp] theorem onQueue_purchaseEnded (q : List Instr) (s : State) (f) :
    purchaseEnded f (s.onQueue q) = (purchaseEnded f s).onQueue q := rfl
@[simp] theorem onQueue_endPurchase (q : List Instr) (s : State) (n r) :
    endPurchase n r (s.onQueue q) = (endPurchase n r s).onQueue q := by
  unfold endPurchase; rw [onQueue_purchaseOf]; cases purchaseOf s n <;> rfl
@[simp] theorem onQueue_endAll (q : List Instr) (s : State) (r) :
    endAll r (s.onQueue q) = (endAll r s).onQueue q := by
  exact foldl_onQueue q (fun s n => endPurchase n r s) (fun s a => onQueue_endPurchase q s a r) _ s
@[simp] theorem onQueue_setRunning (q : List Instr) (s : State) (n p k a) :
    setRunning n p k a (s.onQueue q) = (setRunning n p k a s).onQueue q := rfl
@[simp] theorem onQueue_beginRepetition (q : List Instr) (s : State) (n p k) :
    beginRepetition n p k (s.onQueue q) = (beginRepetition n p k s).onQueue q := by
  unfold beginRepetition; rw [onQueue_purchaseOf]
  cases purchaseOf s n with
  | none => rfl
  | some x =>
    dsimp only; rw [onQueue_chargeFate]
    cases chargeFate s (chargeAmount x p k) <;> first | rfl | simp only [onQueue_endPurchase]
@[simp] theorem onQueue_setPurchaseState (q : List Instr) (s : State) (n st) :
    setPurchaseState n st (s.onQueue q) = (setPurchaseState n st s).onQueue q := rfl
@[simp] theorem onQueue_meterPurchase (q : List Instr) (s : State) (n v) :
    meterPurchase n v (s.onQueue q) = (meterPurchase n v s).onQueue q := by
  unfold meterPurchase; rw [onQueue_purchaseOf]
  cases purchaseOf s n with
  | none => rfl
  | some x =>
    dsimp only; repeat' split
    all_goals first | rfl | simp only [onQueue_endPurchase, onQueue_beginRepetition]
@[simp] theorem onQueue_evalBillingDay (q : List Instr) (s : State) :
    evalBillingDay (s.onQueue q) = (evalBillingDay s).onQueue q := by
  unfold evalBillingDay; rw [onQueue_guest, onQueue_time, onQueue_ret]
  cases guest s <;> cases s.time.building <;> cases s.ret.billingDay <;>
    first | rfl | (dsimp only; split <;> rfl)
@[simp] theorem onQueue_clearViewed (q : List Instr) (s : State) :
    clearViewed (s.onQueue q) = (clearViewed s).onQueue q := rfl
theorem onQueue_meterAll (q : List Instr) (s u : State) :
    meterAll (s.onQueue q) (u.onQueue q) = (meterAll s u).onQueue q := by
  exact foldl_onQueue q (fun (s' : State) (p : Purchase) => meterPurchase p.number (isViewed s p.film) s')
    (fun s' p => onQueue_meterPurchase q s' p.number (isViewed s p.film)) s.ret.purchases u
@[simp] theorem onQueue_meterSecond (q : List Instr) (s : State) :
    meterSecond (s.onQueue q) = (meterSecond s).onQueue q := by
  unfold meterSecond; rw [onQueue_running, onQueue_evalBillingDay]; dsimp only
  rw [onQueue_emergency, onQueue_meterAll]; split <;> (try split) <;> rfl
@[simp] theorem onQueue_evalMembership (q : List Instr) (s : State) :
    evalMembership (s.onQueue q) = (evalMembership s).onQueue q := rfl
@[simp] theorem onQueue_windowEvent (q : List Instr) (s : State) :
    windowEvent (s.onQueue q) = (windowEvent s).onQueue q := by
  unfold windowEvent; repeat' split
  all_goals simp_all
@[simp] theorem onQueue_leaveUnlocked (q : List Instr) (s : State) :
    leaveUnlocked (s.onQueue q) = (leaveUnlocked s).onQueue q := rfl
@[simp] theorem onQueue_closeLock (q : List Instr) (s : State) :
    closeLock (s.onQueue q) = (closeLock s).onQueue q := by
  unfold closeLock; rw [onQueue_lock]; cases s.lock.state <;> rfl
@[simp] theorem onQueue_setFailures (q : List Instr) (s : State) (n) :
    setFailures n (s.onQueue q) = (setFailures n s).onQueue q := rfl
@[simp] theorem onQueue_expiryEvent (q : List Instr) (s : State) :
    expiryEvent (s.onQueue q) = (expiryEvent s).onQueue q := by
  unfold expiryEvent; rw [onQueue_running, onQueue_lock, onQueue_time]
  cases s.lock.state <;> dsimp only <;> (repeat' split) <;> rfl
@[simp] theorem onQueue_lockEvent (q : List Instr) (s : State) :
    lockEvent (s.onQueue q) = (lockEvent s).onQueue q := by
  unfold lockEvent; rw [onQueue_model]; split <;> simp
@[simp] theorem onQueue_serviceCommitted (q : List Instr) (s : State) :
    serviceCommitted (s.onQueue q) = (serviceCommitted s).onQueue q := rfl
@[simp] theorem onQueue_commit (q : List Instr) (s : State) (t) :
    commit t (s.onQueue q) = (commit t s).onQueue q := by
  unfold commit; repeat' split
  all_goals simp_all
@[simp] theorem onQueue_decideCommit (q : List Instr) (s : State) (b t) :
    decideCommit b t (s.onQueue q) = (decideCommit b t s).onQueue q := by
  unfold decideCommit; simp; split <;> simp_all
@[simp] theorem onQueue_commitIfDue (q : List Instr) (s : State) (t) :
    commitIfDue t (s.onQueue q) = (commitIfDue t s).onQueue q := by
  unfold commitIfDue; simp; split <;> simp_all
@[simp] theorem onQueue_commitsDue (q : List Instr) (s : State) :
    commitsDue (s.onQueue q) = (commitsDue s).onQueue q := by
  simp [commitsDue]
@[simp] theorem onQueue_activateIfReached (q : List Instr) (s : State) (t) :
    activateIfReached t (s.onQueue q) = (activateIfReached t s).onQueue q := by
  unfold activateIfReached; simp; split <;> simp_all
@[simp] theorem onQueue_loaderEvent (q : List Instr) (s : State) :
    loaderEvent (s.onQueue q) = (loaderEvent s).onQueue q := by
  simp [loaderEvent]
@[simp] theorem onQueue_completeTenancy (q : List Instr) (s : State) :
    completeTenancy (s.onQueue q) = (completeTenancy s).onQueue q := rfl
@[simp] theorem onQueue_testCompletion (q : List Instr) (s : State) :
    testCompletion (s.onQueue q) = (testCompletion s).onQueue q := by
  unfold testCompletion; simp; split <;> simp_all
@[simp] theorem onQueue_tenancySecond (q : List Instr) (s : State) :
    tenancySecond (s.onQueue q) = (tenancySecond s).onQueue q := by
  unfold tenancySecond; simp; split <;> simp_all
@[simp] theorem onQueue_usedChoice (q : List Instr) (s : State) :
    usedChoice (s.onQueue q) = (usedChoice s).onQueue q := rfl
@[simp] theorem onQueue_owe (q : List Instr) (s : State) (c) :
    owe c (s.onQueue q) = (owe c s).onQueue q := rfl
@[simp] theorem onQueue_paid (q : List Instr) (s : State) (c) :
    paid c (s.onQueue q) = (paid c s).onQueue q := rfl
@[simp] theorem onQueue_takeSecond (q : List Instr) (s : State) (c) :
    takeSecond c (s.onQueue q) = (takeSecond c s).onQueue q := by
  cases c <;> simp [takeSecond]
@[simp] theorem onQueue_deliverSecond (q : List Instr) (s : State) (l c) :
    deliverSecond l c (s.onQueue q) = (deliverSecond l c s).onQueue q := by
  unfold deliverSecond; simp; split <;> simp_all
@[simp] theorem onQueue_settle (q : List Instr) (s : State) :
    settle (s.onQueue q) = (settle s).onQueue q := by
  exact foldl_onQueue q (fun s c => takeSecond c s) (fun s c => onQueue_takeSecond q s c) s.model.due
    { s with model := { s.model with due := [] } }
@[simp] theorem onQueue_secondEvent (q : List Instr) (s : State) :
    secondEvent (s.onQueue q) = (secondEvent s).onQueue q := by
  unfold secondEvent; rw [onQueue_settle]
  exact foldl_onQueue q (fun s' c => deliverSecond (nextChoice (settle s)).later c s')
    (fun s' c => onQueue_deliverSecond q s' _ c) (inOrder (nextChoice (settle s)).order secondConsumers)
    { settle s with
      time := (settle s).time.second
      model := { (settle s).model with
        choices := (settle s).model.choices.tail
        windowFirst := (nextChoice (settle s)).windowFirst } }
@[simp] theorem onQueue_takeStep (q : List Instr) (s : State) (c) :
    takeStep c (s.onQueue q) = (takeStep c s).onQueue q := by
  cases c <;> simp [takeStep]
@[simp] theorem onQueue_adoptTime (q : List Instr) (s : State) (t) :
    adoptTime t (s.onQueue q) = (adoptTime t s).onQueue q := by
  unfold adoptTime; rw [onQueue_time, onQueue_settle]; split
  · rfl
  · exact foldl_onQueue q (fun s c => takeStep c s) (fun s c => onQueue_takeStep q s c)
      (inOrder (nextChoice (settle s)).order [.lock, .meter, .loader])
      { usedChoice (settle s) with time := { (settle s).time with building := some t } }
@[simp] theorem onQueue_takeClosing (q : List Instr) (s : State) (c) :
    takeClosing c (s.onQueue q) = (takeClosing c s).onQueue q := by
  cases c <;> simp [takeClosing]
@[simp] theorem onQueue_takeRecordChanged (q : List Instr) (s : State) (b c) :
    takeRecordChanged b c (s.onQueue q) = (takeRecordChanged b c s).onQueue q := by
  cases c <;> cases b <;> simp [takeRecordChanged]
@[simp] theorem onQueue_makeStart (q : List Instr) (s : State) :
    makeStart (s.onQueue q) = (makeStart s).onQueue q := rfl
@[simp] theorem onQueue_loseRetained (q : List Instr) (s : State) :
    loseRetained (s.onQueue q) = (loseRetained s).onQueue q := rfl
@[simp] theorem onQueue_startUpCompletion (q : List Instr) (s : State) :
    startUpCompletion (s.onQueue q) = (startUpCompletion s).onQueue q := by
  unfold startUpCompletion; rw [onQueue_ret]; cases s.ret.tenancy <;> simp
@[simp] theorem onQueue_offerFeed (q : List Instr) (s : State) (u) :
    offerFeed u (s.onQueue q) = (offerFeed u s).onQueue q := by
  unfold offerFeed; rw [onQueue_merge]; split <;> rfl
@[simp] theorem onQueue_checkSequence (q : List Instr) (s : State) (u) :
    checkSequence u (s.onQueue q) = (checkSequence u s).onQueue q := rfl
@[simp] theorem onQueue_presentUnit (q : List Instr) (s : State) (u st) :
    presentUnit u st (s.onQueue q) = (presentUnit u st s).onQueue q := rfl
@[simp] theorem onQueue_classifyMedia (q : List Instr) (s : State) (u st) :
    classifyMedia u st (s.onQueue q) = (classifyMedia u st s).onQueue q := by
  unfold classifyMedia
  simp only [onQueue_serviceRow, onQueue_isSelected, onQueue_merge, onQueue_outA, onQueue_outB,
    onQueue_checkSequence, onQueue_presentUnit, apply_ite (State.onQueue q)]
  rfl
@[simp] theorem onQueue_loadSlot (q : List Instr) (s : State) (i k) :
    loadSlot i k (s.onQueue q) = (loadSlot i k s).onQueue q := rfl
@[simp] theorem onQueue_placeEntry (q : List Instr) (s : State) (e) :
    placeEntry e (s.onQueue q) = (placeEntry e s).onQueue q := by
  unfold placeEntry; rw [onQueue_keys, onQueue_chosenSlot]
  repeat' split
  all_goals rfl
@[simp] theorem onQueue_rejectStage (q : List Instr) (s : State) (t m) :
    rejectStage t m (s.onQueue q) = (rejectStage t m s).onQueue q := rfl
@[simp] theorem onQueue_takePending (q : List Instr) (s : State) (r) :
    takePending r (s.onQueue q) = (takePending r s).onQueue q := rfl
@[simp] theorem onQueue_replaceActive (q : List Instr) (s : State) (a b) :
    replaceActive a b (s.onQueue q) = (replaceActive a b s).onQueue q := by
  exact foldl_onQueue q (fun s c => takeRecordChanged (lockFieldsDiffer a b) c s)
    (fun s c => onQueue_takeRecordChanged q s _ c) (inOrder (nextChoice s).order [.keys, .lock, .meter, .gate])
    { usedChoice s with ret := { s.ret with active := some b } }
@[simp] theorem onQueue_takeActive (q : List Instr) (s : State) (r) :
    takeActive r (s.onQueue q) = (takeActive r s).onQueue q := by
  unfold takeActive; rw [onQueue_guest]; cases guest s <;> first | rfl | (dsimp only; split <;> simp)
@[simp] theorem onQueue_enterClosing (q : List Instr) (s : State) :
    enterClosing (s.onQueue q) = (enterClosing s).onQueue q := rfl
@[simp] theorem onQueue_beginClosing (q : List Instr) (s : State) :
    beginClosing (s.onQueue q) = (beginClosing s).onQueue q := by
  unfold beginClosing; rw [← onQueue_testCompletion]
  exact congrArg testCompletion (foldl_onQueue q (fun s c => takeClosing c s)
    (fun s c => onQueue_takeClosing q s c) (inOrder (nextChoice s).order [.meter, .keys, .lock, .gate])
    (enterClosing (usedChoice s)))
@[simp] theorem onQueue_sampleReturn (q : List Instr) (s : State) (b) :
    sampleReturn b (s.onQueue q) = (sampleReturn b s).onQueue q := rfl
@[simp] theorem onQueue_beginResult (q : List Instr) (s : State) :
    beginResult (s.onQueue q) = (beginResult s).onQueue q := by
  unfold beginResult; rw [onQueue_results, onQueue_portFree, onQueue_port]
  cases s.results <;> first | rfl | (dsimp only; split <;> rfl)
@[simp] theorem onQueue_endResult (q : List Instr) (s : State) :
    endResult (s.onQueue q) = (endResult s).onQueue q := by
  unfold endResult; rw [onQueue_kindInProgress, onQueue_live, onQueue_port]
  repeat' split
  all_goals rfl
@[simp] theorem onQueue_beginBilling (q : List Instr) (s : State) :
    beginBilling (s.onQueue q) = (beginBilling s).onQueue q := by
  unfold beginBilling; rw [onQueue_offeredRecord, onQueue_portFree, onQueue_results]
  cases offeredRecord s <;> first | rfl | (dsimp only; split <;> rfl)
@[simp] theorem onQueue_takeNotice (q : List Instr) (s : State) (n) :
    takeNotice n (s.onQueue q) = (takeNotice n s).onQueue q := by
  unfold takeNotice; rw [onQueue_ret]; split
  · exact onQueue_testCompletion q
      { s with
        ret := { s.ret with records := markOffered n s.ret.records }
        offer := offerAfterNotice n s.ret.records s.offer }
  · rfl
@[simp] theorem onQueue_endBilling (q : List Instr) (s : State) :
    endBilling (s.onQueue q) = (endBilling s).onQueue q := by
  unfold endBilling; rw [onQueue_kindInProgress, onQueue_live, onQueue_port]; split <;> try rfl
  split
  · exact onQueue_takeNotice q { s with port := { s.port with inProgress := none } } _
  · rfl
@[simp] theorem onQueue_openSession (q : List Instr) (s : State) (n) :
    openSession n (s.onQueue q) = (openSession n s).onQueue q := rfl
@[simp] theorem onQueue_enterLockout (q : List Instr) (s : State) :
    enterLockout (s.onQueue q) = (enterLockout s).onQueue q := rfl
@[simp] theorem onQueue_wrongPin (q : List Instr) (s : State) :
    wrongPin (s.onQueue q) = (wrongPin s).onQueue q := by
  unfold wrongPin; repeat' split
  all_goals simp_all
@[simp] theorem onQueue_relockNow (q : List Instr) (s : State) :
    relockNow (s.onQueue q) = (relockNow s).onQueue q := by
  unfold relockNow; simp; split <;> simp_all
@[simp] theorem onQueue_addPurchase (q : List Instr) (s : State) (p) :
    addPurchase p (s.onQueue q) = (addPurchase p s).onQueue q := rfl
@[simp] theorem onQueue_acceptPurchase (q : List Instr) (s : State) (r) :
    acceptPurchase r (s.onQueue q) = (acceptPurchase r s).onQueue q := by
  unfold acceptPurchase; dsimp only; rw [onQueue_newPurchase, onQueue_addPurchase]; split <;> simp
@[simp] theorem onQueue_voidFilm (q : List Instr) (s : State) (n) :
    voidFilm n (s.onQueue q) = (voidFilm n s).onQueue q := by
  unfold voidFilm; rw [onQueue_ret]; split <;> simp
@[simp] theorem onQueue_payMeter (q : List Instr) (s : State) :
    payMeter (s.onQueue q) = (payMeter s).onQueue q := by
  simp [payMeter]
@[simp] theorem onQueue_removeThrough (q : List Instr) (s : State) (n) :
    removeThrough n (s.onQueue q) = (removeThrough n s).onQueue q := rfl
@[simp] theorem onQueue_receive (q : List Instr) (s : State) (n) :
    receive n (s.onQueue q) = (receive n s).onQueue q := by
  unfold receive; rw [onQueue_ret]; split <;> first | rfl | simp
@[simp] theorem onQueue_poll (q : List Instr) (s : State) (n) :
    poll n (s.onQueue q) = (poll n s).onQueue q := rfl
@[simp] theorem onQueue_selectOn (q : List Instr) (s : State) (o n) :
    selectOn o n (s.onQueue q) = (selectOn o n s).onQueue q := rfl
@[simp] theorem onQueue_showEmergency (q : List Instr) (s : State) (n) :
    showEmergency n (s.onQueue q) = (showEmergency n s).onQueue q := rfl
@[simp] theorem onQueue_beginEmergency (q : List Instr) (s : State) (n) :
    beginEmergency n (s.onQueue q) = (beginEmergency n s).onQueue q := by
  unfold beginEmergency; rw [onQueue_hasOpenRow, onQueue_emergency]; repeat' split
  all_goals rfl
@[simp] theorem onQueue_endEmergency (q : List Instr) (s : State) :
    endEmergency (s.onQueue q) = (endEmergency s).onQueue q := by
  unfold endEmergency; rw [onQueue_emergency]; split <;> rfl
@[simp] theorem onQueue_setUpAlerts (q : List Instr) (s : State) (x) :
    setUpAlerts x (s.onQueue q) = (setUpAlerts x s).onQueue q := rfl
@[simp] theorem onQueue_clearAlerts (q : List Instr) (s : State) (x) :
    clearAlerts x (s.onQueue q) = (clearAlerts x s).onQueue q := rfl
@[simp] theorem onQueue_takeEntry (q : List Instr) (s : State) (e) :
    takeEntry (s.onQueue q) e = (takeEntry s e).onQueue q := by
  unfold takeEntry; rw [onQueue_accepts]; split
  · exact onQueue_placeEntry q s e
  · rfl

/-! ### The forms of a command of the Classifier -/

/-- A reply on another queue. -/
def Reply.onQueue (q : List Instr) (r : Reply) : Reply := (r.1.onQueue q, r.2)

theorem onFeed_onQueue (q : List Instr) (row) (act)
    (h : ∀ u s, act u (s.onQueue q) = (act u s).onQueue q) (s : State) :
    onFeed row act (s.onQueue q) = (onFeed row act s).onQueue q := by
  unfold onFeed; rw [onQueue_feedHead, onQueue_install, onQueue_commitsDue, onQueue_tookFeed]
  repeat' split
  all_goals first | rfl | exact h _ _

theorem onDirective_onQueue {α : Type} (q : List Instr) (row) (read : List Byte → Option α) (act)
    (h : ∀ x s, act x (s.onQueue q) = (act x s).onQueue q) (s : State) :
    onDirective row read act (s.onQueue q) = (onDirective row read act s).onQueue q := by
  refine onFeed_onQueue q row _ (fun u s => ?_) s
  split
  · exact h _ _
  · rfl

theorem onLocal_onQueue (q : List Instr) (row) (act)
    (h : ∀ u s, act u (s.onQueue q) = (act u s).onQueue q) (s : State) :
    onLocal row act (s.onQueue q) = (onLocal row act s).onQueue q := by
  unfold onLocal; rw [onQueue_localHead, onQueue_commitsDue, onQueue_tookLocal]
  repeat' split
  all_goals first | rfl | exact h _ _

theorem onCommand_onQueue {α : Type} (q : List Instr) (kind) (read : List Byte → Option α)
    (act : α → State → Reply) (h : ∀ x s, act x (s.onQueue q) = (act x s).onQueue q) (s : State) :
    onCommand kind read act (s.onQueue q) = (onCommand kind read act s).onQueue q := by
  refine onLocal_onQueue q _ _ (fun u s => ?_) s
  split
  · dsimp only; rw [h]; rfl
  · rfl

end Sys2Proof.Machine
end

