-- ==== Sys2Proof/Laws/Tables.lean ====
section
/-!
SUPPORT. The tables keep their sizes: 256 rows of the Service Table and 32 steps of the Tariff Store, in
the active copy and in the stage (R51, R53, R55).
-/
namespace Sys2Proof.Machine

/-- The active copy and the stage image of a machine have the rows of its table. -/
def TableMachine.Sized (t : Table) (m : TableMachine) : Prop :=
  m.active.length = tableSize t
    ∧ ∀ g rows, m.stage.contents = some (g, rows) → rows.length = tableSize t

theorem vacantTable_length (t : Table) : (vacantTable t).length = tableSize t := by
  cases t <;> exact List.length_replicate ..

theorem atStart_sized (t : Table) : (TableMachine.atStart t).Sized t :=
  ⟨vacantTable_length t, fun _ _ h => by cases h⟩

/-- R57: TABLE OPEN keeps the sizes. -/
theorem openTable_sized {t : Table} {m : TableMachine} (h : m.Sized t) (g : Nat) :
    (openTable t g m).Sized t := by
  unfold openTable
  split
  · exact h
  · refine ⟨h.1, fun _ _ hc => ?_⟩
    simp only [Stage.contents, Option.some.injEq, Prod.mk.injEq] at hc
    exact hc.2 ▸ vacantTable_length t

/-- R58: images written inside the stage keep its size. -/
theorem writeRows_length {rows new : List Image} {first : Nat}
    (h : first + new.length ≤ rows.length) : (writeRows rows first new).length = rows.length := by
  simp only [writeRows, List.length_append, List.length_take, List.length_drop]
  omega

/-- R58: a TABLE ROWS that passes its form checks does not run past the end of its table. -/
theorem readTableRows_fits {payload : List Byte} {x : RowsOperands}
    (h : readTableRows payload = some x) : x.first + x.rows.length ≤ tableSize x.table := by
  have hl : ∀ size n bytes, (images size n bytes).length = n := by
    intro size n
    induction n with
    | zero => intro; rfl
    | succ n ih => intro bytes; simp [images, ih]
  unfold readTableRows at h
  dsimp only at h
  split at h
  · split at h
    · rename_i hc
      cases h
      simp only [Bool.and_eq_true, decide_eq_true_eq] at hc
      simpa [hl] using hc.2
    · cases h
  · cases h

/-- R58: TABLE ROWS keeps the sizes. -/
theorem rowsInto_sized {x : RowsOperands} {m : TableMachine} (h : m.Sized x.table)
    (hx : x.first + x.rows.length ≤ tableSize x.table) : (rowsInto x m).Sized x.table := by
  unfold rowsInto
  split
  · rename_i g rows hs
    split
    · refine ⟨h.1, fun _ _ hc => ?_⟩
      simp only [Stage.contents, Option.some.injEq, Prod.mk.injEq] at hc
      have hr : rows.length = tableSize x.table := h.2 g rows (by rw [hs]; rfl)
      rw [← hc.2, writeRows_length (by omega), hr]
    · exact h
  · exact h
  · exact h
  · exact h

/-- R59: TABLE CLOSE keeps the sizes. -/
theorem closeTable_sized {x : CloseOperands} {t : Table} {m : TableMachine} (h : m.Sized t) :
    (closeTable x m).Sized t := by
  unfold closeTable
  split
  · rename_i g rows hs
    split
    · refine ⟨h.1, fun _ _ hc => ?_⟩
      simp only [Stage.contents, Option.some.injEq, Prod.mk.injEq] at hc
      exact hc.2 ▸ h.2 g rows (by rw [hs]; rfl)
    · exact h
  · exact h
  · exact h
  · exact h

/-- R67: a commit makes the stage image, of the table's size, the active copy. -/
theorem committed_sized {t : Table} {m : TableMachine} (h : m.Sized t) {g : Nat} {rows : List Image}
    (hc : m.stage.contents = some (g, rows)) :
    ({ m with activeGen := g, active := rows, stage := .idle, commitDue := false } : TableMachine).Sized
      t :=
  ⟨h.2 g rows hc, fun _ _ h' => by cases h'⟩

end Sys2Proof.Machine
end

