-- ==== Sys2Proof/WellFormed.lean ====
section
/-!
DEFINITION. Which operands a command of the BW-3216 can carry. Every command without operands, and
every one whose operands are a level, a table or an output, is well formed.
-/
namespace Sys2Proof

/-- R3: 128 bytes or more follow the unit-start indication, the first of them 0xB5. -/
def feedBytesOk (bytes : List Byte) : Bool :=
  bytes.head? == some 0xB5 && decide (128 ≤ bytes.length)

/-- R89: the read takes 68 bytes of the serial memory. -/
def memoryBytesOk (memory : List Byte) : Bool :=
  decide (memory.length = 68)

/-- R3: a unit is discarded for its first byte only where that byte is not 0xB5. -/
def feedDiscardOk : FeedDiscard → Bool
  | .badSync first => first != 0xB5
  | .cutShort _ => true

/-- The operand check of a command. -/
def Instr.wellFormed : Instr → Bool
  | .feedUnitArrival bytes => feedBytesOk bytes
  | .installationReadEnd memory => memoryBytesOk memory
  | .feedInterfaceDiscard why => feedDiscardOk why
  | .powerUp => true
  | .resetHeldLow => true
  | .resetRelease => true
  | .standbySupplyLoss => true
  | .localInsertByte _ => true
  | .mediaUnit => true
  | .discardedFeedUnit => true
  | .timeMark => true
  | .keyUnit => true
  | .directiveIgnored => true
  | .tableOpen => true
  | .tableRows => true
  | .tableClose => true
  | .checkCompletion _ => true
  | .tableActivation _ => true
  | .tableCommit _ => true
  | .roomRecord => true
  | .tenancyChange => true
  | .completionTimeout => true
  | .lockReset => true
  | .purchaseVoid => true
  | .billingReceipt => true
  | .billingPoll => true
  | .emergencyOn => true
  | .emergencyOff => true
  | .refusedUnit => true
  | .unknownCommand => true
  | .select => true
  | .purchase => true
  | .pinEntry => true
  | .relock => true
  | .query => true
  | .alertSetup => true
  | .alertClear => true
  | .secondEvent => true
  | .sessionExpiry => true
  | .lockoutExpiry => true
  | .graceUsedUp => true
  | .graceLapse => true
  | .stepRemainingEnd => true
  | .resultUnitBegin _ => true
  | .resultUnitEnd _ => true
  | .billingUnitBegin _ => true
  | .billingUnitEnd _ => true
  | .outputUnitBegin _ _ => true
  | .outputUnitEnd _ _ => true
  | .mainSupplyLoss => true
  | .coldStartWritesEnd => true

end Sys2Proof
end

