-- ==== Sys2Proof/Tests/Slice0.lean ====
section
/-!
SUPPORT. Tests of the model against the spec's own words, formats and worked figures; and for every
statement with hypotheses a witness: concrete states and operands that meet them.
-/
namespace Sys2Proof.Tests

open Sys2Proof.Machine

/-! ### Units and parts for the tests -/

/-- A unit of a label, CLEAR, that carries these bytes. -/
def carrying (label : Nat) (bytes : List Byte) : StampedUnit where
  unit :=
    { label := BitVec.ofNat 12 label, phase := .clear, start := false, spare2 := false, sequence := 5,
      spare3 := 0, payload := padPayload bytes }
  stamp := 7

/-- §11.3: a directive to ALL of a kind code and body. -/
def directive (kind : Byte) (body : List Byte) : StampedUnit :=
  carrying 4095 ([kind, 1, 0, 0, BitVec.ofNat 8 body.length, 0, 0, 0] ++ body)

/-- §11.3: a local command with tag 90 of a kind code and body. -/
def command (kind : Byte) (body : List Byte) : StampedUnit :=
  carrying 4094 ([kind, 90, BitVec.ofNat 8 body.length, 0] ++ body)

/-- A media unit of a label. -/
def media (label : Nat) (phase : KeyPhase) (sequence : BitVec 4) : StampedUnit :=
  { carrying label [] with
    unit := { (carrying label []).unit with phase := phase, sequence := sequence } }

/-- §11.3: 212 is PACKAGE 2, 731 is FILM 9001 with grace 300 and ceiling 2500, 5 and 6 are OPEN, 880 is
OPEN of rating 6, 732 is FILM 9002 of rating 6 without grace, 733 is FILM 9003 without grace. -/
def services : List Image :=
  [[0, 212, 2, 0, 2, 0, 0, 0, 0, 0, 0, 0, 0, 0, 0, 0],
   [2, 219, 3, 0, 0, 0, 35, 41, 0, 2, 1, 44, 0, 0, 9, 196],
   [0, 5, 1, 0, 0, 0, 0, 0, 0, 0, 0, 0, 0, 0, 0, 0],
   [0, 6, 1, 0, 0, 0, 0, 0, 0, 0, 0, 0, 0, 0, 0, 0],
   [3, 112, 1, 6, 0, 0, 0, 0, 0, 0, 0, 0, 0, 0, 0, 0],
   [2, 220, 3, 6, 0, 0, 35, 42, 2, 1, 0, 0, 0, 0, 0, 0],
   [2, 221, 3, 0, 0, 0, 35, 43, 2, 1, 0, 0, 0, 0, 0, 0]]

/-- §11.3: the steps of chapter 8.9 (7200 viewed seconds at 1499; 3600 elapsed seconds at 300, repeated 3
times, increment 50), and one of 100 elapsed seconds at 400. -/
def steps : List Image :=
  [[0, 0, 28, 32, 2, 0, 0, 5, 219, 0, 0, 0],
   [0, 0, 14, 16, 1, 3, 0, 1, 44, 0, 50, 0],
   [0, 0, 0, 100, 1, 0, 0, 1, 144, 0, 0, 0]]

/-- A running part without a guest, its tables filled and building time SET. -/
def vacant : State :=
  { State.reset with
    power := { State.reset.power with phase := .running }
    svc := { State.reset.svc with activeGen := 7, active := services }
    tar := { State.reset.tar with activeGen := 3, active := steps }
    time := { mono := 1000, divider := 0, building := some { day := 20410, second := 39600 } } }

/-- The guest of the tests: package 2, PIN 4712, classes from 5 on locked, no window. -/
def visitor : RoomRecord where
  tenancyId := 5120
  packages := 4
  lockMode := .pin
  threshold := 5
  pin := some { d1 := 4, d2 := 7, d3 := 1, d4 := 2 }
  session := 1800
  window := none
  spendLimit := 5000
  billingDayStart := 21600

/-- An offered record of a serial. -/
def record (serial : Nat) (offered : Bool) : BillingRecord where
  serial := serial
  entry := .ended .void 0
  room := 0
  tenancyId := 5120
  purchase := 3
  film := 9001
  day := 20410
  second := 39600
  timeUnknown := false
  offered := offered

/-- A live purchase of film 9001 in a state. -/
def film (number : Nat) (state : PurchaseState) : Purchase where
  number := number
  film := 9001
  state := state
  steps :=
    [{ duration := 7200, measure := .viewed, charge := 1499, repeats := 0, increment := 0 },
     { duration := 3600, measure := .elapsed, charge := 300, repeats := 3, increment := 50 }]
  total := 0
  ceiling := some 2500

/-- The running part with this guest. -/
def hosting (g : RoomRecord) : State :=
  { vacant with ret := { vacant.ret with tenancy := .occupied, active := some g } }

/-- The running part with the guest of the tests. -/
def occupied : State := hosting visitor

/-- The running part with a live purchase. -/
def buying (p : Purchase) : State := { occupied with ret := { occupied.ret with purchases := [p] } }

/-- The running part in CLOSING, with these records. -/
def leaving (records : List BillingRecord) : State :=
  { occupied with
    ret := { occupied.ret with tenancy := .closing, records := records }
    closing := some 1060 }

/-- The part with a unit at the head of its Building Feed FIFO. -/
def withFeedUnit (q : StampedUnit) (s : State) : State := { s with merge := { s.merge with feed := [q] } }

/-- The part with a unit at the head of its Local Insert FIFO. -/
def withLocalUnit (q : StampedUnit) (s : State) : State :=
  { s with merge := { s.merge with localQ := [q] } }

/-- The part with the lock in a state. -/
def withLock (l : LockState) (s : State) : State := { s with lock := { s.lock with state := l } }

/-- The part with a stage of the Tariff Store. -/
def withStage (stage : Stage) (s : State) : State := { s with tar := { s.tar with stage := stage } }

/-- What a command leaves: the next state. -/
def after (c : Instr) (s : State) : State :=
  match exec c s with
  | .next t => t
  | .fault _ => s
  | .refused _ => s

/-- A setting 1 to 6 for each of the fifteen adjustable sources. -/
def levels15 : List Byte := [1, 2, 3, 4, 5, 6, 1, 2, 3, 4, 5, 6, 1, 2, 6]

/-- The serial memory with a record of room 412 whose signature is right, and the defaults otherwise. -/
def memory : List Byte :=
  let fields : List Byte := [1, 156] ++ List.replicate 16 0 ++ [48, 16, 0, 1, 24, 1] ++ levels15
  let body := fields ++ List.replicate (64 - fields.length) 0
  body ++ beBytes 4 (signature body).toNat

/-- A ROOM RECORD for a slot, of the guest of the tests but for its packages. -/
def roomRecord (slot : Byte) (packages : Byte) : StampedUnit :=
  directive 4
    ([slot, 0, 20, 0, 0, 0, 0, packages, 2, 5, 1, 4, 7, 1, 2, 0, 7, 8] ++ List.replicate 8 0
      ++ [0, 0, 19, 136, 0, 0, 84, 96, 0, 0])

/-! ### Operands: an ill-formed term for each check -/

set_option maxRecDepth 8000 in
theorem test_feed_operand_needs_128_bytes :
    Instr.wellFormed (.feedUnitArrival (0xB5 :: List.replicate 126 0)) = false
      ∧ Instr.wellFormed (.feedUnitArrival (0xB5 :: List.replicate 127 0)) = true := by decide

theorem test_feed_operand_needs_the_sync :
    Instr.wellFormed (.feedUnitArrival (List.replicate 128 0)) = false := by decide

theorem test_memory_operand_is_68_bytes :
    Instr.wellFormed (.installationReadEnd (List.replicate 67 0)) = false
      ∧ Instr.wellFormed (.installationReadEnd (List.replicate 68 0)) = true := by decide

theorem test_bad_sync_is_not_the_sync :
    Instr.wellFormed (.feedInterfaceDiscard (.badSync 0xB5)) = false
      ∧ Instr.wellFormed (.feedInterfaceDiscard (.badSync 0x47)) = true := by decide

/-- The table gives the rows no bits, so no word spells a command. -/
theorem test_no_word_spells_a_command : decodeTableWord 8 0 = none ∧ decodeTableWord 16 1 = none := by
  decide

/-! ### Worked cases of the spec -/

/-- Chapter 4.7: the signature from the seed. -/
theorem test_signature_of_chapter_4 :
    signature [] = 0x7FFFFFFF ∧ signature [0] = 0x7FFFFF00 ∧ signature [0xFF] = 0x7FFFFFFF
      ∧ signature [0x80] = 0x7FFFFF80 ∧ signature [0, 0] = 0x7FFF0000 := by decide

/-- Chapter 5.9: the keystream of word 0x12345678_6DCBA4C2, label 212, sequence 5. -/
theorem test_keystream_of_chapter_5 :
    (descrambleBytes (keystreamSeed 0x123456786DCBA4C2 212 5)
      [0x47, 0x10, 0x22, 0x3F, 0x9A, 0x00, 0x5C, 0xFC]).1 =
      [0x47, 0x10, 0x22, 0x31, 0x9A, 0x00, 0x5C, 0x00] := by decide

/-- Chapter 5.9: a seed whose low 31 bits are 0 is the seed of all ones. -/
theorem test_keystream_seed_of_zero : keystreamSeed 0x8000000000000000 0 0 = 0x7FFFFFFF := by decide

/-- Chapter 3.7: day 20,000 second 86,399 is followed by day 20,001 second 0, day 65,535 by day 0. -/
theorem test_midnight_of_chapter_3 :
    BuildingTime.advance { day := 20000, second := 86399 } = { day := 20001, second := 0 }
      ∧ BuildingTime.advance { day := 65535, second := 86399 } = { day := 0, second := 0 } := by decide

/-- Chapter 4.9: day 20,000 second 86,396 is before day 20,001 second 0, which is reached at itself. -/
theorem test_activation_of_chapter_4 :
    reached (some { day := 20000, second := 86396 }) { day := 20001, second := 0 } = false
      ∧ reached (some { day := 20001, second := 0 }) { day := 20001, second := 0 } = true
      ∧ reached (some { day := 0, second := 0 }) { day := 65535, second := 0 } = true := by decide

/-- Chapter 7.8: in a window from 79,200 to 21,600, 21,599 lies inside and 21,600 outside. -/
theorem test_window_of_chapter_7 :
    Window.contains { opens := 79200, closes := 21600 } 21599 = true
      ∧ Window.contains { opens := 79200, closes := 21600 } 21600 = false
      ∧ Window.contains { opens := 79200, closes := 21600 } 79200 = true
      ∧ Window.contains { opens := 79200, closes := 21600 } 79199 = false := by decide

/-- Chapter 8.11: at day 20,411 second 20,000 with a start of 21,600 the billing day is 20,410, no move
forward from 20,411. -/
theorem test_billing_day_of_chapter_8 :
    billingDayOf { day := 20411, second := 20000 } 21600 = 20410
      ∧ movesForward 20411 20410 = false ∧ movesForward 20410 20411 = true := by decide

/-- Chapter 9.7: serial 65,535 is followed by 1. -/
theorem test_serial_of_chapter_9 : nextSerialAfter 65535 = 1 ∧ nextSerialAfter 2 = 3 := by decide

/-! ### Formats of chapter 11 -/

/-- §11.2: the header of a unit of label 731 (0x2DB), PHASE B, start, sequence 9. -/
theorem test_unit_header :
    (unitOfBytes ([0xB5, 0x2D, 0xBA, 0x90] ++ zeros 124)).label = 731
      ∧ (unitOfBytes ([0xB5, 0x2D, 0xBA, 0x90] ++ zeros 124)).phase = .phaseB
      ∧ (unitOfBytes ([0xB5, 0x2D, 0xBA, 0x90] ++ zeros 124)).start = true
      ∧ (unitOfBytes ([0xB5, 0x2D, 0xBA, 0x90] ++ zeros 124)).sequence = 9 := by decide

/-- §11.3: the row of label 731: FILM 9001, two steps from 0, grace 300, ceiling 2500. -/
theorem test_service_row :
    serviceRow vacant 731 = some
      { label := 731, access := .film, rating := 0, package := 0, film := 9001, tariffStart := 0,
        tariffCount := 2, grace := 300, ceiling := 2500 }
      ∧ serviceStageOk services = true := by decide

/-- §11.3: the steps of chapter 8.9. -/
theorem test_tariff_steps :
    stepOf (steps.getD 1 []) =
      { duration := 3600, measure := .elapsed, charge := 300, repeats := 3, increment := 50 }
      ∧ tariffStageOk steps = true := by decide

/-- R53, R54: a vacant step lasts one ELAPSED second and charges nothing. -/
theorem test_vacant_step :
    stepOf (zeros 12) = { duration := 1, measure := .elapsed, charge := 0, repeats := 0, increment := 0 } :=
  by decide

/-- §11.3: a key entry of label 212, package 2, PHASE B; a reserved flag bit makes it malformed. -/
theorem test_key_entry :
    readKeyEntry [0, 212, 2, 1, 0x12, 0x34, 0x56, 0x78, 0x6D, 0xCB, 0xA4, 0xC2] = some
        { label := 212, package := 2, house := false, phaseB := true, word := 0x123456786DCBA4C2 }
      ∧ readKeyEntry [0, 212, 2, 2, 0x12, 0x34, 0x56, 0x78, 0x6D, 0xCB, 0xA4, 0xC2] = none := by decide

/-- R88: the room, the options and the sense of a record; thresholds 16 and 48 are out of range and give
48 and 16. -/
theorem test_installation_record :
    (readInstallation memory).room = 412 ∧ (readInstallation memory).trailerB = true
      ∧ thresholdsOf 16 48 = (48, 16) ∧ thresholdsOf 8 7 = (8, 7) := by decide

/-- §11.3: a ROOM RECORD for the ACTIVE slot. -/
theorem test_room_record : readRoomRecord (roomRecord 1 4).unit.payload = some (true, visitor) := by decide

/-! ### Commands -/

/-- R92, R95: a power-up with an invalid retained area begins the writes of a cold start. -/
theorem test_power_up_is_cold :
    (after .powerUp { State.reset with
      power := { State.reset.power with mainSupply := false, valid := false } }).power.phase = .coldWrites := by
  decide

/-- R93, R158: a release is a warm start, and clears the marks. -/
theorem test_release_clears_marks :
    let s := after .resetRelease (after .resetHeldLow (leaving [record 7 true]))
    s.power.phase = .reading ∧ s.ret.records.map (·.offered) = [false] ∧ s.offer = some 7 := by decide

/-- R91: the main supply's loss with the standby supply present keeps the retained area. -/
theorem test_standby_keeps_the_area :
    (after .mainSupplyLoss occupied).ret = occupied.ret
      ∧ (after .standbySupplyLoss (after .mainSupplyLoss occupied)).power.valid = false := by decide

/-- R95: the end of the cold writes. -/
theorem test_cold_writes_end :
    (after .coldStartWritesEnd { State.reset with
      power := { State.reset.power with phase := .coldWrites, valid := false } }).power.phase = .reading := by
  decide

set_option maxRecDepth 8000 in
/-- R90: a record whose signature passes. -/
theorem test_read_passes :
    (after (.installationReadEnd memory) State.reset).install.room = 412
      ∧ (after (.installationReadEnd memory) State.reset).power.phase = .running := by decide

set_option maxRecDepth 8000 in
/-- R89, R90: a serial memory that does not answer reads 0xFF, and the read fails. -/
theorem test_read_fails :
    (after (.installationReadEnd []) State.reset).install.fault = true
      ∧ (after (.installationReadEnd []) State.reset).alerts.isLatched .installationFault = true := by decide

set_option maxRecDepth 8000 in
/-- R6: a unit that arrives is stamped and queued. -/
theorem test_feed_arrival :
    (after (.feedUnitArrival ([0xB5, 0x2D, 0xBA, 0x90] ++ zeros 124)) vacant).merge.feed.length = 1 := by
  decide

/-- R3: the indication that cut a unit short begins the next where its byte is 0xB5. -/
theorem test_feed_discard :
    (after (.feedInterfaceDiscard (.cutShort 0xB5)) vacant).merge.feedIf = .receiving
      ∧ (after (.feedInterfaceDiscard (.badSync 0x47)) vacant).merge.feedIf = .awaiting := by decide

/-- R4: a first byte other than 0xB5 is discarded. -/
theorem test_insert_byte :
    (after (.localInsertByte 0xB5) vacant).merge.asm = [0xB5]
      ∧ (after (.localInsertByte 0x47) vacant).merge.asm = [] := by decide

/-- R17, R163: the first unit of a label selected on A, without the start flag, is blanked ENTRY WAIT. -/
theorem test_media_entry_wait :
    let s := { vacant with outA := { vacant.outA with selected := 5, entryWait := true } }
    let t := after .mediaUnit (withFeedUnit (media 5 .clear 3) s)
    t.outA.queue.map (·.verdict) = [.entryWait] ∧ t.merge.refs = [{ label := 5, sequence := 3 }] := by decide

/-- R13: a unit of label 0 leaves no trace. -/
theorem test_discarded_unit :
    after .discardedFeedUnit (withFeedUnit (carrying 0 []) vacant) =
      { vacant with merge := { vacant.merge with pref := .localInsert } } := by decide

/-- R44, R45: a mark sets building time. -/
theorem test_time_mark :
    (after .timeMark (withFeedUnit (carrying 4080 [0x4F, 0xBA, 0, 0, 0, 1, 0, 0]) vacant)).time.building
      = some { day := 20410, second := 1 } := by decide

/-- R75, R76: an entry of a package the guest holds loads the first EMPTY slot. -/
theorem test_key_unit :
    ((after .keyUnit (withFeedUnit (carrying 4088
      [1, 0, 0, 0, 0, 212, 2, 1, 0x12, 0x34, 0x56, 0x78, 0x6D, 0xCB, 0xA4, 0xC2]) occupied)).keys.slots.getD 0
        none).map (fun k => (k.label, k.order)) = some (212, 1) := by decide

/-- R22: a directive of an unknown kind is ignored. -/
theorem test_ignored_directive :
    (after .directiveIgnored (withFeedUnit (directive 11 []) vacant)).alerts = vacant.alerts := by decide

/-- R57: TABLE OPEN of another generation clears the stage. -/
theorem test_table_open :
    (after .tableOpen (withFeedUnit (directive 1 [2, 0, 0, 4]) vacant)).tar.stage =
      .filling 4 (vacantTable .tariff) := by decide

/-- R58: TABLE ROWS writes its images. -/
theorem test_table_rows :
    (after .tableRows (withFeedUnit (directive 2 ([2, 1, 0, 4, 1, 0] ++ steps.getD 2 []))
      (withStage (.filling 4 steps) vacant))).tar.stage =
      .filling 4 [steps.getD 0 [], steps.getD 2 [], steps.getD 2 []] := by decide

/-- R59: TABLE CLOSE of the generation being filled begins its check. -/
theorem test_table_close :
    (after .tableClose (withFeedUnit (directive 3 [2, 0, 0, 4, 0, 0, 0, 9, 0, 0, 0, 0, 0, 0, 0, 0])
      (withStage (.filling 4 steps) vacant))).tar.stage = .checking 4 steps 9 none := by decide

set_option maxRecDepth 8000 in
/-- R64: a check that finds another signature rejects the stage. -/
theorem test_check_rejects :
    (after (.checkCompletion .tariff) (withStage (.checking 4 steps 9 none) vacant)).tar.stage = .idle
      ∧ (after (.checkCompletion .tariff)
          (withStage (.checking 4 steps 9 none) vacant)).alerts.isLatched .tableRejected = true := by decide

set_option maxRecDepth 8000 in
/-- R64, R67: a check that passes commits. -/
theorem test_check_commits :
    (after (.checkCompletion .tariff)
      (withStage (.checking 4 steps (signature steps.flatten).toNat none) vacant)).tar.activeGen = 4 := by
  decide

/-- R66, R67: a PENDING stage whose time is reached commits. -/
theorem test_activation :
    (after (.tableActivation .tariff)
      (withStage (.waiting 4 steps { day := 20410, second := 39600 }) vacant)).tar.activeGen = 4
      ∧ (after (.tableActivation .tariff)
        (withStage (.waiting 4 steps { day := 20410, second := 39601 }) vacant)).tar.activeGen = 3 := by
  decide

/-- R67: a commit that stands due is made. -/
theorem test_table_commit :
    (after (.tableCommit .tariff)
      { vacant with
        tar := { vacant.tar with
          stage := .checking 4 steps 0 none
          commitDue := true } }).tar.activeGen = 4 := by decide

/-- R100, R81: a ROOM RECORD for the ACTIVE slot replaces the record of the stay. -/
theorem test_room_record_active :
    ((after .roomRecord (withFeedUnit (roomRecord 1 0) occupied)).ret.active.map (·.packages)) = some 0 := by
  decide

/-- R102 to R106: a change of tenancy with an empty queue completes at once. -/
theorem test_tenancy_change :
    let s := { occupied with ret := { occupied.ret with waiting := some visitor } }
    let t := after .tenancyChange (withFeedUnit (directive 5 []) s)
    t.ret.tenancy = .occupied ∧ t.ret.active = some visitor ∧ t.ret.waiting = none := by decide

/-- R105: at the timeout the change completes with an unoffered record in the queue. -/
theorem test_completion_timeout :
    (after .completionTimeout
      { leaving [record 1 false] with time := { vacant.time with mono := 1060 } }).ret.tenancy = .vacant := by
  decide

/-- R118: LOCK RESET cancels a lockout. -/
theorem test_lock_reset :
    (after .lockReset (withFeedUnit (directive 6 []) (withLock (.lockout 1900) occupied))).lock.state =
      .locked := by decide

/-- R144: PURCHASE VOID ends the purchase of its film. -/
theorem test_purchase_void :
    (after .purchaseVoid (withFeedUnit (directive 7 [35, 41, 0, 0]) (buying (film 3 (.grace 300 0 3600))))).ret.records.map
      (fun r => (r.serial, r.entry)) = [(1, .ended .void 0)] := by decide

/-- R154: a receipt through serial 1 leaves serial 2. -/
theorem test_billing_receipt :
    (after .billingReceipt (withFeedUnit (directive 8 [0, 1, 0, 0])
      (leaving [record 1 true, record 2 false]))).ret.records.map (·.serial) = [2] := by decide

/-- R155: a poll from a serial that is not in the queue names the oldest. -/
theorem test_billing_poll :
    (after .billingPoll (withFeedUnit (directive 9 [0, 9, 0, 0])
      (leaving [record 1 true, record 2 false]))).offer = some 1 := by decide

/-- R171: EMERGENCY ON takes both outputs. -/
theorem test_emergency_on :
    let t := after .emergencyOn (withFeedUnit (directive 10 [1, 0, 0, 5]) vacant)
    t.emergency = some 5 ∧ t.outA.selected = 5 ∧ t.outB.selected = 5 := by decide

/-- R171: a label whose row is not OPEN gives DIRECTIVE FAULT. -/
theorem test_emergency_on_a_film :
    let t := after .emergencyOn (withFeedUnit (directive 10 [1, 0, 2, 219]) vacant)
    t.emergency = none ∧ t.alerts.isLatched .directiveFault = true := by decide

/-- R172: EMERGENCY OFF gives A its saved selection back. -/
theorem test_emergency_off :
    let s := { vacant with
      emergency := some 5
      outA := { vacant.outA with selected := 5, saved := 212 } }
    let t := after .emergencyOff (withFeedUnit (directive 10 [2, 0, 0, 0]) s)
    t.emergency = none ∧ t.outA.selected = 212 ∧ t.outA.state = .waiting ∧ t.outB.state = .idle
      ∧ t.outB.last = .noService := by decide

/-- R14: a refused unit. -/
theorem test_refused_unit :
    (after .refusedUnit (withLocalUnit (carrying 4093 []) vacant)).results =
      [{ tag := 0, kind := 0, code := .badForm, body := [] }] := by decide

/-- R25: an unknown command kind. -/
theorem test_unknown_command :
    (after .unknownCommand (withLocalUnit (command 8 []) vacant)).results =
      [{ tag := 90, kind := 8, code := .badForm, body := [] }] := by decide

/-- R161: SELECT B of label 731. -/
theorem test_select :
    let t := after .select (withLocalUnit (command 1 [2, 0, 2, 219]) vacant)
    t.outB.selected = 731 ∧ t.outB.state = .waiting ∧ t.results.map (·.code) = [.done] := by decide

/-- R128, R130: a film with grace is bought, without a charge. -/
theorem test_purchase :
    let t := after .purchase (withLocalUnit (command 2 [2, 219, 0, 0]) occupied)
    t.ret.purchases.map (·.state) = [.grace 300 0 3600] ∧ t.results.map (·.body) = [[1, 0, 0, 0]]
      ∧ t.ret.nextPurchase = 2 := by decide

/-- R130, R138: a film without grace makes its first charge at once. -/
theorem test_purchase_without_grace :
    let t := after .purchase (withLocalUnit (command 2 [2, 221, 0, 0]) occupied)
    t.ret.records.map (·.entry) = [.charge 400 0 0] ∧ t.ret.spentToday = 400 := by decide

/-- R115: the right PIN opens the lock for the session length. -/
theorem test_pin_entry :
    (after .pinEntry (withLocalUnit (command 3 [4, 7, 1, 2]) occupied)).lock.state = .unlocked 2800 := by
  decide

/-- R115: the third wrong PIN brings the lockout. -/
theorem test_pin_entry_wrong :
    let s := { occupied with ret := { occupied.ret with failures := 2 } }
    let t := after .pinEntry (withLocalUnit (command 3 [1, 1, 1, 1]) s)
    t.lock.state = .lockout 1900 ∧ t.ret.failures = 0 := by decide

/-- R117: RELOCK in LOCKOUT changes nothing and is DONE. -/
theorem test_relock :
    let t := after .relock (withLocalUnit (command 4 []) (withLock (.lockout 1900) occupied))
    t.lock.state = .lockout 1900 ∧ t.results.map (·.code) = [.done] := by decide

/-- R177: the FIFOS view of a part with a query in hand. -/
theorem test_query :
    (after .query (withLocalUnit (command 5 [8, 0, 0, 0]) vacant)).results.map (·.body) =
      [[0, 0, 1, 48, 16, 0]] := by decide

/-- R38: ALERT SETUP. -/
theorem test_alert_setup :
    let t := after .alertSetup (withLocalUnit (command 6 ([7, 2] ++ levels15 ++ [0, 0, 0])) vacant)
    t.alerts.mask = 7 ∧ t.alerts.sense = .falling ∧ t.alerts.level .tableRejected = 6
      ∧ alertLine t = false := by decide

/-- R39: TIME UNSET latches again while building time is absent. -/
theorem test_alert_clear :
    (after .alertClear (withLocalUnit (command 7 [0, 0, 0x20, 0])
      { vacant with time := { vacant.time with building := none } })).results.map (·.body) =
      [[0, 0, 0x20, 0]] := by decide

/-- R41, R43: both clocks advance. -/
theorem test_second_event :
    (after .secondEvent vacant).time =
      { mono := 1001, divider := 0, building := some { day := 20410, second := 39601 } } := by decide

/-- R119: the session expires. -/
theorem test_session_expiry :
    let t := after .sessionExpiry (withLock (.unlocked 1000) occupied)
    t.lock.state = .locked ∧ t.alerts.isLatched .sessionEnded = true := by decide

/-- R47, R120: the Lock Unit takes the second event of its expiry whole: the membership is evaluated. -/
theorem test_session_expiry_evaluates_window :
    let s : State :=
      { hosting { visitor with window := some { opens := 21600, closes := 39600 } } with
        lock := { state := .unlocked 1000, membership := .inside } }
    (after .sessionExpiry s).lock = { state := .locked, membership := .outside } := by decide

/-- R119: a lockout ends with no alert of its own. -/
theorem test_lockout_expiry :
    let t := after .lockoutExpiry (withLock (.lockout 1000) occupied)
    t.lock.state = .locked ∧ t.alerts = occupied.alerts := by decide

/-- The part in which the meter owes the second event. -/
def owing (s : State) : State := { s with model := { s.model with due := [.meter] } }

/-- R134: the 300th viewed second ends the grace, and the first step charges 1499. -/
theorem test_grace_used_up :
    let s := owing (buying (film 3 (.grace 300 299 10)))
    let t := after .graceUsedUp { s with outA := { s.outA with selected := 731, viewed := true } }
    t.ret.purchases.map (·.state) = [.running 0 0 7200] ∧ t.ret.spentToday = 1499 := by decide

/-- R134: the last lapse second ends the purchase. -/
theorem test_grace_lapse :
    (after .graceLapse (owing (buying (film 3 (.grace 300 299 1))))).ret.records.map (·.entry) =
      [.ended .lapsed 0] := by decide

/-- R135, R137: the second repetition of the step charges 350. -/
theorem test_step_remaining_end :
    let t := after .stepRemainingEnd (owing (buying (film 3 (.running 1 0 1))))
    t.ret.purchases.map (·.state) = [.running 1 1 3600] ∧ t.ret.records.map (·.entry) = [.charge 350 1 1] := by
  decide

/-- A result to send. -/
def reply : Result where
  tag := 90
  kind := 4
  code := .done
  body := []

/-- R32, R33, §11.3: the first bytes of a result unit (label 4,093). -/
theorem test_result_unit_begin :
    ((after (.resultUnitBegin true) { vacant with results := [reply] }).port.inProgress.map
      (fun u => u.bytes.take 8)) = some [0xB5, 0xFF, 0xD0, 0x00, 90, 4, 0, 0] := by decide

/-- R28: the end of its unit takes the result from the queue. -/
theorem test_result_unit_end :
    (after (.resultUnitEnd true)
      (after (.resultUnitBegin true) { vacant with results := [reply] })).results = [] := by decide

/-- R152, §11.3: the first bytes of a billing unit (label 4,092) of an END, re-offered. -/
theorem test_billing_unit_begin :
    ((after (.billingUnitBegin true) { leaving [record 7 true] with offer := some 7 }).port.inProgress.map
      (fun u => u.bytes.take 14)) = some [0xB5, 0xFF, 0xC0, 0x00, 0, 7, 2, 2, 0, 0, 20, 0, 3, 5] := by decide

/-- R153, R104: the notice marks the record and, the last one, completes the change. -/
theorem test_billing_unit_end :
    let t := after (.billingUnitEnd true)
      (after (.billingUnitBegin true) { leaving [record 7 false] with offer := some 7 })
    t.ret.records.map (·.offered) = [true] ∧ t.offer = none ∧ t.ret.tenancy = .vacant := by decide

/-- A unit that waits in an Output Queue. -/
def shown : QueuedUnit where
  unit := (media 731 .clear 5).unit
  stamp := 0x010203
  verdict := .pass

/-- R166, §11.2: with the option ON the unit is followed by its stamp and verdict. -/
theorem test_output_unit_begin :
    let s := { vacant with
      install := { vacant.install with trailerB := true }
      outB := { vacant.outB with selected := 731, queue := [shown] } }
    ((after (.outputUnitBegin .b true) s).outB.transfer.map (·.bytes.drop 128)) = some [1, 2, 3, 1] := by decide

/-- R166: while the line is deasserted the unit holds its place. -/
theorem test_output_unit_end :
    let s := { vacant with outA := { vacant.outA with transfer := some { bytes := zeros 128, sent := 9 } } }
    (after (.outputUnitEnd .a false) s).outA.transfer = some { bytes := zeros 128, sent := 9 }
      ∧ (after (.outputUnitEnd .a true) s).outA.transfer = none := by decide

set_option maxRecDepth 8000 in
/-- R32: the unit-start indication marks the first byte of a unit, and holds with it while the line is
deasserted; the next byte has none. -/
theorem test_unit_start :
    let s := after (.resultUnitBegin true) { vacant with results := [reply] }
    returnByte s = some { byte := 0xB5, unitStart := true }
      ∧ returnByte (after (.resultUnitEnd false) s) = some { byte := 0xB5, unitStart := true }
      ∧ returnByte { s with port := s.port.advance 1 } = some { byte := 0xFF, unitStart := false } := by decide

set_option maxRecDepth 8000 in
/-- R89: the read leaves the signature of the 64 record bytes in its register. -/
theorem test_read_signature :
    (after (.installationReadEnd memory) State.reset).readSig = signature (memory.take 64)
      ∧ (after .resetRelease (after .resetHeldLow (after (.installationReadEnd memory) State.reset))).readSig
          = 0x7FFFFFFF := by decide

/-! ### Witnesses: states and operands that meet the hypotheses of the statements, clause by clause -/

/-- The part with its reset line held low. -/
def heldLow : State := { vacant with power := { vacant.power with resetLow := true } }

/-- The part without its main supply. -/
def unpowered : State := { vacant with power := { vacant.power with mainSupply := false } }

/-- A part with a unit on each port out, before its last byte. -/
def sending : State :=
  { vacant with
    port := { vacant.port with
      ready := true, inProgress := some { kind := .result, bytes := zeros 128, sent := 127 } }
    outA := { vacant.outA with transfer := some { bytes := zeros 132, sent := 0 }, ready := true }
    outB := { vacant.outB with transfer := some { bytes := zeros 128, sent := 64 } } }

theorem witness_StepRunsTheFrontCommand :
    ({ vacant with pending := [.relock] } : State).pending = .relock :: []
      ∧ vacant.pending = [] ∧ live vacant = true ∧ heldLow.pending = [] ∧ live heldLow = false
      ∧ vacant.port.inProgress = none ∧ vacant.outA.transfer = none ∧ vacant.outB.transfer = none
      ∧ sending.pending = [] ∧ live sending = true
      ∧ sending.port.inProgress = some { kind := .result, bytes := zeros 128, sent := 127 }
      ∧ sending.outA.transfer = some { bytes := zeros 132, sent := 0 }
      ∧ sending.outB.transfer = some { bytes := zeros 128, sent := 64 } := by decide

theorem witness_PowerUpAndReleaseMakeAStart :
    unpowered.power.mainSupply = false ∧ vacant.power.mainSupply = true
      ∧ heldLow.power.mainSupply = true ∧ heldLow.power.resetLow = true
      ∧ ¬(vacant.power.mainSupply = true ∧ vacant.power.resetLow = true) := by decide

theorem witness_SuppliesAndTheRetainedArea :
    vacant.power.standbySupply = true
      ∧ (after .standbySupplyLoss vacant).power.mainSupply = true
      ∧ (after .standbySupplyLoss vacant).power.standbySupply = false
      ∧ unpowered.power.mainSupply = false ∧ unpowered.power.standbySupply = true
      ∧ live { vacant with power := { vacant.power with phase := .coldWrites } } = true := by decide

theorem witness_HeldLowBlocksEveryBlock :
    heldLow.power.resetLow = true ∧ Instr.secondEvent ≠ .resetRelease ∧ Instr.secondEvent ≠ .powerUp
      ∧ Instr.secondEvent ≠ .mainSupplyLoss ∧ Instr.secondEvent ≠ .standbySupplyLoss
      ∧ unpowered.power.mainSupply = false ∧ Instr.secondEvent ≠ .resetHeldLow := by decide

set_option maxRecDepth 8000 in
theorem witness_InstallationReadPutsValuesInForce :
    live State.reset = true ∧ State.reset.power.phase = .reading ∧ readPasses (memoryBytes memory) = true
      ∧ readPasses (memoryBytes []) = false ∧ State.reset.ret.tenancy = .vacant
      ∧ ({ occupied with power := State.reset.power } : State).ret.tenancy = .occupied
      ∧ occupied.ret.purchases = [] ∧ (buying (film 3 (.running 1 0 1))).ret.purchases ≠ []
      ∧ (buying (film 3 (.running 1 0 1))).ret.tenancy = .occupied ∧ live heldLow = false
      ∧ ({ leaving [] with power := State.reset.power } : State).ret.tenancy = .closing
      ∧ vacant.power.phase ≠ .reading := by decide

/-- A feed that holds this many units. -/
def burst (n : Nat) : State :=
  { vacant with merge := { vacant.merge with feed := List.replicate n (media 5 .clear 0) } }

theorem witness_FeedUnitEntersOrIsDropped :
    live vacant = true ∧ (0xB5 :: zeros 127).head? = some 0xB5 ∧ 128 ≤ (0xB5 :: zeros 127).length
      ∧ (burst 63).merge.feed.length < 64 ∧ 64 ≤ (burst 64).merge.feed.length
      ∧ (0xB5 :: zeros 126).length < 128 ∧ (0x47 : Byte) ≠ 0xB5 := by
  simp [burst, vacant, live, State.reset, zeros]

/-- A feed that sheds and holds this many units. -/
def shedding (n : Nat) : State := { burst n with merge := { (burst n).merge with shed := .shedding } }

theorem witness_FeedShedding :
    (burst 48).merge.shed = .normal ∧ (burst 48).install.shedThr ≤ (burst 48).merge.feed.length
      ∧ (burst 47).merge.feed.length < (burst 47).install.shedThr
      ∧ (shedding 17).merge.shed = .shedding
      ∧ (shedding 17).install.resumeThr < (shedding 17).merge.feed.length
      ∧ (shedding 16).merge.feed.length ≤ (shedding 16).install.resumeThr := by
  decide

/-- A part with a unit at both inputs. -/
def both : State := withLocalUnit (command 4 []) (withFeedUnit (media 5 .clear 0) vacant)

/-- No unit of a row is taken from the feed where the head, if any, is of another row. -/
theorem not_feedTakes {s : State} {row : FeedRow}
    (h : (feedHead s).all (fun q => decide (feedRow s.install q.unit ≠ row)) = true) (q : StampedUnit) :
    ¬FeedTakes s row q := fun ⟨hq, hr⟩ => by
  rw [hq] at h
  simp [hr] at h

/-- No unit of a row is taken from the local insert where the head, if any, is of another row. -/
theorem not_localTakes {s : State} {row : LocalRow}
    (h : (localHead s).all (fun q => decide (localRow q.unit ≠ row)) = true) (q : StampedUnit) :
    ¬LocalTakes s row q := fun ⟨hq, hr⟩ => by
  rw [hq] at h
  simp [hr] at h

theorem witness_ClassifierAlternates :
    running both = true ∧ both.merge.feed.head? = some (media 5 .clear 0) ∧ both.merge.pref = .feed
      ∧ both.merge.localQ.head? = some (command 4 []) ∧ both.results.length < 8
      ∧ ({ both with merge := { both.merge with pref := .localInsert } } : State).merge.pref = .localInsert
      ∧ vacant.merge.feed = [] ∧ vacant.merge.localQ = []
      ∧ running heldLow = false
      ∧ (∀ q, ¬FeedTakes vacant .media q) ∧ (∀ q, ¬FeedTakes both .timeMark q)
      ∧ (∀ q, ¬LocalTakes vacant (.command .relock) q) ∧ (∀ q, ¬LocalTakes both (.command .relock) q)
      ∧ (Instr.mediaUnit, FeedRow.media) ∈
          [(Instr.mediaUnit, FeedRow.media), (.discardedFeedUnit, .discarded), (.timeMark, .timeMark),
           (.keyUnit, .keyUnit), (.directiveIgnored, .ignored), (.tableOpen, .tableOpen),
           (.tableRows, .tableRows), (.tableClose, .tableClose), (.roomRecord, .roomRecord),
           (.tenancyChange, .tenancyChange), (.lockReset, .lockReset), (.purchaseVoid, .purchaseVoid),
           (.billingReceipt, .billingReceipt), (.billingPoll, .billingPoll), (.emergencyOn, .emergencyOn),
           (.emergencyOff, .emergencyOff)]
      ∧ (Instr.relock, LocalRow.command .relock) ∈
          [(Instr.refusedUnit, LocalRow.refused), (.unknownCommand, .unknown), (.select, .command .select),
           (.purchase, .command .purchase), (.pinEntry, .command .pinEntry), (.relock, .command .relock),
           (.query, .command .query), (.alertSetup, .command .alertSetup),
           (.alertClear, .command .alertClear)] := by
  refine ⟨by decide, by decide, by decide, by decide, by decide, by decide, by decide, by decide, by decide,
    not_feedTakes (by decide), not_feedTakes (by decide), not_localTakes (by decide),
    not_localTakes (by decide), by simp, by simp⟩

theorem witness_FeedUnitsAreRouted :
    (media 5 .noMeaning 0).unit.phase = .noMeaning
      ∧ (media 4080 .phaseA 0).unit.label.toNat = 4080 ∧ (media 4080 .phaseA 0).unit.phase ≠ .clear
      ∧ (media 1 .phaseA 0).unit.label.toNat = 1 ∧ (media 4079 .clear 0).unit.label.toNat = 4079
      ∧ (media 4081 .clear 0).unit.label.toNat = 4081 ∧ (media 4087 .clear 0).unit.label.toNat = 4087
      ∧ (media 4089 .clear 0).unit.label.toNat = 4089 ∧ (media 4094 .clear 0).unit.label.toNat = 4094
      ∧ (carrying 4088 []).unit.label.toNat = 4088
      ∧ (byteAt (directive 0 []).unit.payload 0).toNat = 0
      ∧ 10 < (byteAt (directive 11 []).unit.payload 0).toNat
      ∧ (byteAt (directive 1 []).unit.payload 0).toNat = 1
      ∧ (byteAt (directive 10 [2]).unit.payload 0).toNat = 10
      ∧ byteAt (directive 10 [2]).unit.payload 8 = 2 ∧ byteAt (directive 10 [3]).unit.payload 8 ≠ 2
      ∧ byteAt (carrying 4095 [5, 2, 15, 255]).unit.payload 1 = 2
      ∧ field (carrying 4095 [5, 2, 15, 255]).unit.payload 2 2 = 4095
      ∧ byteAt (carrying 4095 [5, 0]).unit.payload 1 = 0
      ∧ byteAt (directive 5 []).unit.payload 1 = 1
      ∧ byteAt (carrying 4095 [5, 3, 0, 9]).unit.payload 1 = 3
      ∧ FeedTakes (withFeedUnit (carrying 0 []) vacant) .discarded (carrying 0 [])
      ∧ FeedTakes (withFeedUnit (directive 11 []) vacant) .ignored (directive 11 []) := by decide

/-- A part whose Local Insert assembly holds this many bytes. -/
def assembling (n : Nat) : State :=
  { vacant with merge := { vacant.merge with asm := (0xB5 :: zeros 127).take n } }

set_option maxRecDepth 8000 in
theorem witness_LocalInsertAssemblesUnits :
    insertReady heldLow = false ∧ insertReady vacant = true ∧ vacant.merge.asm = []
      ∧ (assembling 126).merge.asm ≠ [] ∧ (assembling 126).merge.asm.length < 127
      ∧ 127 ≤ (assembling 127).merge.asm.length ∧ insertReady (assembling 127) = true := by decide

set_option maxRecDepth 8000 in
theorem witness_FormFaultsAreIgnoredWhole :
    let takes (row : FeedRow) (q : StampedUnit) : Bool := decide (FeedTakes (withFeedUnit q vacant) row q)
    takes .tableOpen (directive 1 []) = true ∧ readTableOpen (directive 1 []).unit.payload = none
      ∧ takes .tableRows (directive 2 []) = true ∧ readTableRows (directive 2 []).unit.payload = none
      ∧ takes .tableClose (directive 3 []) = true ∧ readTableClose (directive 3 []).unit.payload = none
      ∧ takes .roomRecord (directive 4 []) = true ∧ readRoomRecord (directive 4 []).unit.payload = none
      ∧ takes .tenancyChange (directive 5 [0]) = true ∧ readNoBody (directive 5 [0]).unit.payload = none
      ∧ takes .lockReset (directive 6 [0]) = true ∧ readNoBody (directive 6 [0]).unit.payload = none
      ∧ takes .purchaseVoid (directive 7 []) = true ∧ takes .billingReceipt (directive 8 []) = true
      ∧ takes .billingPoll (directive 9 []) = true ∧ readNumber (directive 9 []).unit.payload = none
      ∧ readNumber (directive 7 []).unit.payload = none ∧ readNumber (directive 8 []).unit.payload = none
      ∧ takes .emergencyOn (directive 10 [1, 0, 0, 0]) = true
      ∧ readEmergencyOn (directive 10 [1, 0, 0, 0]).unit.payload = none
      ∧ takes .emergencyOff (directive 10 [2, 0, 0, 5]) = true
      ∧ readEmergencyOff (directive 10 [2, 0, 0, 5]).unit.payload = none
      ∧ takes .timeMark (carrying 4080 [0, 0, 0, 1, 0x51, 0x80, 0, 0]) = true
      ∧ 86399 < field (carrying 4080 [0, 0, 0, 1, 0x51, 0x80, 0, 0]).unit.payload 2 4
      ∧ takes .timeMark (carrying 4080 [0, 0, 0, 0, 0, 0, 0, 1]) = true
      ∧ byteAt (carrying 4080 [0, 0, 0, 0, 0, 0, 0, 1]).unit.payload 7 ≠ 0 := by decide

set_option maxRecDepth 8000 in
theorem witness_LocalUnitsAreAnswered :
    let takes (row : LocalRow) (q : StampedUnit) : Bool := decide (LocalTakes (withLocalUnit q vacant) row q)
    takes .refused (carrying 4093 []) = true ∧ takes .unknown (command 8 []) = true
      ∧ takes (.command .select) (command 1 []) = true ∧ readSelect (command 1 []).unit.payload = none
      ∧ takes (.command .purchase) (command 2 []) = true ∧ readPurchase (command 2 []).unit.payload = none
      ∧ takes (.command .pinEntry) (command 3 [4, 7, 1, 10]) = true
      ∧ readPinEntry (command 3 [4, 7, 1, 10]).unit.payload = none
      ∧ takes (.command .relock) (command 4 [0]) = true ∧ readRelock (command 4 [0]).unit.payload = none
      ∧ takes (.command .query) (command 5 [10, 0, 0, 0]) = true
      ∧ readQuery (command 5 [10, 0, 0, 0]).unit.payload = none
      ∧ takes (.command .alertSetup) (command 6 []) = true
      ∧ readAlertSetup (command 6 []).unit.payload = none
      ∧ takes (.command .alertClear) (command 7 [0, 1, 0, 0]) = true
      ∧ readAlertClear (command 7 [0, 1, 0, 0]).unit.payload = none
      ∧ takes (.command .query) (command 5 [9, 0, 0, 0]) = true
      ∧ readQuery (command 5 [9, 0, 0, 0]).unit.payload = some .alerts
      ∧ (media 4094 .noMeaning 0).unit.phase = .noMeaning ∧ (media 4094 .phaseA 0).unit.phase ≠ .clear
      ∧ (command 8 []).unit.label.toNat = 4094 ∧ (command 8 []).unit.phase = .clear
      ∧ (byteAt (command 0 []).unit.payload 0).toNat = 0 ∧ 7 < (byteAt (command 8 []).unit.payload 0).toNat
      ∧ (byteAt (command 7 []).unit.payload 0).toNat = 7
      ∧ takes (.command .pinEntry) (command 3 [4, 7, 1, 2]) = true := by decide

/-- A part whose A selects 731 and B 5, with a reference of 731 at 5, and a unit in hand. -/
def showing (q : StampedUnit) : State :=
  withFeedUnit q { vacant with
    merge := { vacant.merge with refs := [{ label := 731, sequence := 5 }] }
    outA := { vacant.outA with selected := 731 }
    outB := { vacant.outB with selected := 5 } }

/-- The same part while it sheds. -/
def sheddingB (q : StampedUnit) : State :=
  { showing q with
    install := { vacant.install with resumeThr := 0 }
    merge := { (showing q).merge with shed := .shedding, feed := [q, q] } }

theorem witness_MediaUnitDiscarded :
    FeedTakes (showing (media 9 .clear 5)) .media (media 9 .clear 5)
      ∧ serviceRow (tookFeed (showing (media 9 .clear 5))) 9 = none
      ∧ FeedTakes (showing (media 6 .clear 5)) .media (media 6 .clear 5)
      ∧ (tookFeed (showing (media 6 .clear 5))).outA.selected ≠ 6
      ∧ (tookFeed (showing (media 6 .clear 5))).outB.selected ≠ 6
      ∧ FeedTakes (sheddingB (media 5 .clear 5)) .media (media 5 .clear 5)
      ∧ (tookFeed (sheddingB (media 5 .clear 5))).merge.shed = .shedding
      ∧ FeedTakes (showing (media 731 .clear 5)) .media (media 731 .clear 5)
      ∧ referenceOf (tookFeed (showing (media 731 .clear 5))).merge.refs 731 = some 5 := by decide

theorem witness_MediaUnitGated :
    let q := media 731 .phaseA 7
    let t := tookFeed (showing q)
    FeedTakes (showing q) .media q ∧ serviceRow t 731 ≠ none ∧ t.outA.selected = 731
      ∧ t.outB.selected ≠ 731 ∧ t.merge.shed = .normal
      ∧ referenceOf t.merge.refs 731 ≠ some q.unit.sequence
      ∧ (tookFeed (showing (media 5 .clear 0))).outB.selected = 5 := by decide

/-- A slot of a label with a phase B word. -/
def keyed (label : Nat) (house used : Bool) (order : Word32) : KeySlot where
  label := label
  house := house
  wordA := none
  wordB := some 5
  used := used
  order := order

/-- A part with these key slots and A on label 212. -/
def holding (slots : List (Option KeySlot)) : State :=
  { vacant with
    keys := { slots := slots, loads := 30, keystream := 1 }
    outA := { vacant.outA with selected := 212 } }

theorem witness_DescramblingUndoesItself :
    (media 212 .clear 0).unit.phase = .clear ∧ (media 212 .phaseA 0).unit.phase ≠ .clear
      ∧ [none, some (keyed 212 false false 1)][1]? = some (some (keyed 212 false false 1))
      ∧ (keyed 212 false false 1).wordA = none ∧ (keyed 212 false false 1).wordB = some 5
      ∧ (media 212 .phaseB 0).unit.phase = .phaseB ∧ (keyed 212 false false 1).label ≠ 213 := by decide

theorem witness_AdmissionFollowsTheTables :
    ({ vacant with emergency := some 5 } : State).emergency = some 5 ∧ vacant.emergency ≠ some 9
      ∧ serviceRow vacant 9 = none ∧ (serviceRow vacant 5).map (·.access) = some .openToAll
      ∧ (serviceRow vacant 212).map (·.access) = some .package ∧ vacant.ret.tenancy ≠ .occupied
      ∧ occupied.ret.tenancy = .occupied ∧ occupied.ret.active = some visitor
      ∧ (serviceRow vacant 731).map (·.access) = some .film ∧ vacant.ret.purchases = []
      ∧ (buying (film 3 (.grace 300 0 3600))).ret.purchases.map (·.film) = [9001]
      ∧ 4 < visitor.threshold ∧ visitor.threshold ≤ 5 ∧ visitor.lockMode = .pin
      ∧ ({ visitor with lockMode := .off } : RoomRecord).lockMode = .off
      ∧ ({ visitor with lockMode := .barred } : RoomRecord).lockMode = .barred
      ∧ occupied.lock.state = .locked
      ∧ (withLock (.unlocked 9) occupied).lock.state = .unlocked 9 ∧ visitor.window = none
      ∧ ({ visitor with window := some { opens := 79200, closes := 21600 } } : RoomRecord).window =
          some { opens := 79200, closes := 21600 } := by decide

theorem witness_AdultWindowContains :
    (⟨79200, 21600⟩ : Window).opens ≠ (⟨79200, 21600⟩ : Window).closes
      ∧ (⟨0, 86399⟩ : Window).opens < (⟨0, 86399⟩ : Window).closes
      ∧ (⟨79200, 21600⟩ : Window).closes < (⟨79200, 21600⟩ : Window).opens := by decide

theorem witness_AdmissionPurgeBlanksWhatIsLost :
    let out : Output := { vacant.outA with queue := [shown] }
    out.queue[0]? = some shown ∧ out.queue = [] ++ shown :: []
      ∧ (shown.verdict.passes = true ∧ (admissionOf vacant 731).passes = false)
      ∧ (admissionOf (buying (film 3 (.running 0 0 9))) 731).passes = true ∧ vacant.outA.queue = [] := by decide

/-- A time mark of day 20,410, second 39,601. -/
def mark : StampedUnit := carrying 4080 [0x4F, 0xBA, 0, 0, 0x9A, 0xB1, 0, 0]

/-- A stage of the Tariff Store that waits on that time. -/
def waitingPart : State :=
  withFeedUnit mark (withStage (.waiting 4 steps { day := 20410, second := 39601 }) vacant)

/-- The guest of the tests with a window, and a mark in hand that leaves it. -/
def edging : State :=
  withFeedUnit mark
    { hosting { visitor with window := some { opens := 21600, closes := 39601 } } with
      lock := { vacant.lock with membership := .inside } }

/-- The same stage of the Service Table's machine, with slots of labels 5 and 212 loaded. -/
def waitingRows : State :=
  withFeedUnit mark
    { vacant with
      svc := { vacant.svc with stage := .waiting 8 services { day := 20410, second := 39601 } }
      keys := { vacant.keys with slots := [none, some (keyed 212 false true 7), some (keyed 5 true true 6)] } }

theorem witness_TimeMarkIsAdopted :
    FeedTakes waitingPart .timeMark mark
      ∧ readTimeMark mark.unit.payload = some { day := 20410, second := 39601 }
      ∧ (afterFeed waitingPart).time.building ≠ some { day := 20410, second := 39601 }
      ∧ (afterFeed waitingPart).model.due = []
      ∧ (machine (afterFeed waitingPart) .tariff).stage = .waiting 4 steps { day := 20410, second := 39601 }
      ∧ (machine (afterFeed waitingPart) .tariff).commitDue = false
      ∧ (machine (afterFeed waitingPart) .service).stage = .idle
      ∧ FeedTakes waitingRows .timeMark mark ∧ (afterFeed waitingRows).svc.stage ≠ .idle
      ∧ (after .timeMark waitingRows).svc.stage = .idle
      ∧ (after .timeMark waitingRows).keys.slots = [none, none, some (keyed 5 true true 6)]
      ∧ FeedTakes edging .timeMark mark ∧ (afterFeed edging).model.due = []
      ∧ (afterFeed edging).lock.membership = .inside
      ∧ (after .timeMark edging).lock.membership = .outside
      ∧ (machine (afterFeed edging) .tariff).stage = .idle
      ∧ BuildingTime.atOrPast { day := 20410, second := 39601 } { day := 20410, second := 39602 } = false
      ∧ BuildingTime.atOrPast { day := 20410, second := 39601 } { day := 20410, second := 39601 } = true
      ∧ (afterFeed (withFeedUnit mark { vacant with
          time := { vacant.time with building := some { day := 20410, second := 39601 } } })).time.building =
        some { day := 20410, second := 39601 }
      ∧ FeedTakes (withFeedUnit mark { vacant with
          time := { vacant.time with building := some { day := 20410, second := 39601 } } }) .timeMark mark := by
  decide

theorem witness_SecondEventAdvancesBothClocks :
    live vacant = true ∧ live unpowered = false ∧ vacant.model.due = [] ∧ vacant.model.choices = []
      ∧ running vacant = true ∧ running heldLow = false
      ∧ [Consumer.tenancy, .lock, .loader, .meter].Perm [.lock, .meter, .loader, .tenancy]
      ∧ vacant.model.windowFirst = false
      ∧ ({ vacant with model := { vacant.model with windowFirst := true } } : State).model.windowFirst = true
      ∧ (withLock (.unlocked 1001) occupied).lock.state = .unlocked (occupied.time.mono + 1)
      ∧ (withLock (.lockout 1001) occupied).lock.state = .lockout (occupied.time.mono + 1)
      ∧ (withLock (.unlocked 1000) occupied).lock.state = .unlocked occupied.time.mono
      ∧ (withLock (.lockout 1000) occupied).lock.state = .lockout occupied.time.mono
      ∧ (machine waitingPart .tariff).stage = .waiting 4 steps { day := 20410, second := 39601 }
      ∧ (machine waitingPart .tariff).commitDue = false ∧ running waitingPart = true
      ∧ reached (waitingPart.time.building.map BuildingTime.advance) { day := 20410, second := 39601 } = true
      ∧ reached vacant.time.building { day := 20410, second := 39600 } = true
      ∧ reached vacant.time.building { day := 20410, second := 39601 } = false
      ∧ ({ leaving [] with closing := some 1001 } : State).closing = some (occupied.time.mono + 1)
      ∧ ({ leaving [] with closing := some 1000 } : State).closing = some occupied.time.mono
      ∧ (leaving []).ret.tenancy = .closing ∧ (leaving []).closing ≠ some (occupied.time.mono + 1)
      ∧ occupied.ret.active = some visitor ∧ visitor.window = none ∧ vacant.ret.tenancy ≠ .occupied
      ∧ edging.lock.membership = .inside
      ∧ membershipNow { edging with
          time := { vacant.time with building := some { day := 20410, second := 39601 } } } = .outside
      ∧ ({ vacant with emergency := some 5 } : State).emergency ≠ none ∧ vacant.emergency = none
      ∧ BuildingTime.second { day := 65535, second := 86399 } = 86399
      ∧ occupied.ret.billingDay = none ∧ occupied.time.building = some { day := 20410, second := 39600 }
      ∧ [20410, 20409, 53179, 53178].map (fun c => (20410 + 65536 - c) % 65536) = [0, 1, 32767, 32768] := by
  decide

theorem witness_TableDirectivesMoveTheStage :
    let open4 := directive 1 [2, 0, 0, 4]
    let open3 := directive 1 [2, 0, 0, 3]
    let rows := directive 2 ([2, 1, 0, 4, 1, 0] ++ steps.getD 2 [])
    let close := directive 3 [2, 0, 0, 4, 0, 0, 0, 9, 0, 0, 0, 0, 0, 0, 0, 0]
    FeedTakes (withFeedUnit open4 vacant) .tableOpen open4
      ∧ readTableOpen open4.unit.payload = some (.tariff, 4)
      ∧ FeedTakes (withFeedUnit open3 vacant) .tableOpen open3
      ∧ readTableOpen open3.unit.payload = some (.tariff, 3)
      ∧ (machine (afterFeed (withFeedUnit open3 vacant)) .tariff).activeGen = 3
      ∧ FeedTakes (withFeedUnit rows (withStage (.filling 4 steps) vacant)) .tableRows rows
      ∧ (readTableRows rows.unit.payload).map (·.generation) = some 4
      ∧ FeedTakes (withFeedUnit close (withStage (.filling 4 steps) vacant)) .tableClose close
      ∧ (readTableClose close.unit.payload).map (·.generation) = some 4
      ∧ (machine (afterFeed (withFeedUnit close (withStage (.filling 4 steps) vacant))) .tariff).stage =
          .filling 4 steps
      ∧ FeedTakes (withFeedUnit rows vacant) .tableRows rows
      ∧ FeedTakes (withFeedUnit close vacant) .tableClose close
      ∧ (machine (afterFeed (withFeedUnit rows vacant)) .tariff).stage = .idle
      ∧ (machine (afterFeed (withFeedUnit close vacant)) .tariff).stage = .idle := by decide

/-- The signature of the steps of the tests. -/
def stepsSignature : Nat := (signature steps.flatten).toNat

set_option maxRecDepth 8000 in
theorem witness_CheckCompletionDecidesTheStage :
    live vacant = true
      ∧ (machine (withStage (.checking 4 steps 9 none) vacant) .tariff).stage = .checking 4 steps 9 none
      ∧ (machine (withStage (.checking 4 steps 9 none) vacant) .tariff).commitDue = false
      ∧ stepsSignature ≠ 9 ∧ stageOk .tariff [[1, 0, 0, 0, 0, 0, 0, 0, 0, 0, 0, 0]] = false
      ∧ (signature steps.flatten).toNat = stepsSignature ∧ stageOk .tariff steps = true
      ∧ reached vacant.time.building { day := 20410, second := 39601 } = false
      ∧ reached vacant.time.building { day := 20410, second := 39600 } = true
      ∧ Consumer.loader ∉ (nextChoice vacant).later
      ∧ Consumer.loader ∈ (nextChoice { vacant with
          model := { vacant.model with choices := [{ order := [], later := [.loader], windowFirst := false }] } }).later
      ∧ vacant.tar.stage = .idle := by decide

theorem witness_CommitMakesTheStageActive :
    (withStage (.waiting 4 steps { day := 0, second := 0 }) vacant).tar.stage.contents = some (4, steps)
      ∧ ({ vacant with svc := { vacant.svc with stage := .filling 8 services } } : State).svc.stage.contents
          = some (8, services)
      ∧ (commit .service
          { holding [none, some (keyed 212 false true 7), some (keyed 5 true true 6)] with
            svc := { vacant.svc with stage := .filling 8 services } }).keys.slots =
          [none, none, some (keyed 5 true true 6)]
      ∧ live vacant = true ∧ vacant.svc.commitDue = false ∧ vacant.tar.commitDue = false
      ∧ (machine { vacant with tar := { vacant.tar with commitDue := true } } .tariff).commitDue = true
      ∧ (machine (withStage (.waiting 4 steps { day := 20410, second := 39601 }) vacant) .tariff).stage =
          .waiting 4 steps { day := 20410, second := 39601 }
      ∧ live heldLow = false ∧ vacant.tar.stage = .idle
      ∧ reached vacant.time.building { day := 20410, second := 39600 } = true
      ∧ reached vacant.time.building { day := 20410, second := 39601 } = false := by decide

/-- A key entry of label 212. -/
def entry212 : KeyEntry := { label := 212, package := 2, house := false, phaseB := true, word := 9 }

theorem witness_KeyEntriesAreAccepted :
    FeedTakes (withFeedUnit (carrying 4088 [1]) vacant) .keyUnit (carrying 4088 [1])
      ∧ (byteAt (carrying 4088 [0]).unit.payload 0).toNat = 0
      ∧ 9 < (byteAt (carrying 4088 [10]).unit.payload 0).toNat
      ∧ byteAt (carrying 4088 [1, 0, 1]).unit.payload 2 ≠ 0
      ∧ (byteAt (carrying 4088 [9]).unit.payload 0).toNat = 9
      ∧ (byteAt (carrying 4088 [9]).unit.payload 1).toNat = 0
      ∧ serviceRow occupied 9 = none
      ∧ (serviceRow occupied entry212.label).map (·.package) = some entry212.package
      ∧ visitor.packages.getLsbD 2 = true ∧ visitor.packages.getLsbD 5 = false := by decide

theorem witness_KeyEntriesArePlaced :
    (holding [none, some (keyed 212 false true 7)]).keys.slots[1]? = some (some (keyed 212 false true 7))
      ∧ (keyed 212 false true 7).label = entry212.label
      ∧ (holding [some (keyed 5 true true 7), none]).keys.slots[1]? = some none
      ∧ none ∉ (holding [some (keyed 731 false true 7)]).keys.slots
      ∧ (keyed 731 false true 7).house = false
      ∧ (holding [some (keyed 731 false true 7)]).outA.selected ≠ (keyed 731 false true 7).label
      ∧ (holding [some (keyed 731 false true 7)]).outB.selected ≠ (keyed 731 false true 7).label
      ∧ none ∉ (holding [some (keyed 5 true true 7)]).keys.slots ∧ (keyed 5 true true 7).house = true := by
  decide

theorem witness_RoomRecordReachesItsSlot :
    FeedTakes (withFeedUnit (roomRecord 2 4) occupied) .roomRecord (roomRecord 2 4)
      ∧ readRoomRecord (roomRecord 2 4).unit.payload = some (false, visitor)
      ∧ FeedTakes (withFeedUnit (roomRecord 1 4) occupied) .roomRecord (roomRecord 1 4)
      ∧ readRoomRecord (roomRecord 1 4).unit.payload = some (true, visitor)
      ∧ FeedTakes (withFeedUnit (roomRecord 1 4) vacant) .roomRecord (roomRecord 1 4)
      ∧ (afterFeed (withFeedUnit (roomRecord 1 4) vacant)).ret.tenancy ≠ .occupied
      ∧ FeedTakes (withFeedUnit (roomRecord 1 4) (hosting { visitor with tenancyId := 5121 })) .roomRecord
          (roomRecord 1 4)
      ∧ visitor.tenancyId ≠ ({ visitor with tenancyId := 5121 } : RoomRecord).tenancyId
      ∧ (afterFeed (withFeedUnit (roomRecord 1 4) occupied)).ret.tenancy = .occupied
      ∧ (afterFeed (withFeedUnit (roomRecord 1 4) occupied)).ret.active = some visitor := by decide

/-- A change of tenancy, in hand. -/
def changing (s : State) : State := withFeedUnit (directive 5 []) s

theorem witness_TenancyChangeClosesTheStay :
    FeedTakes (changing (leaving [])) .tenancyChange (directive 5 [])
      ∧ readNoBody (directive 5 []).unit.payload = some ()
      ∧ (afterFeed (changing (leaving []))).ret.tenancy = .closing
      ∧ FeedTakes (changing occupied) .tenancyChange (directive 5 [])
      ∧ (afterFeed (changing occupied)).ret.tenancy ≠ .closing
      ∧ (after .tenancyChange (changing occupied)).ret.records = []
      ∧ (after .tenancyChange (changing (buying (film 3 (.grace 300 0 3600))))).ret.records.map (·.offered) =
          [false]
      ∧ (after .tenancyChange (changing (buying (film 3 (.grace 300 0 3600))))).alerts.isLatched
          .purchaseEnded = true
      ∧ (withLock (.unlocked 9) occupied).alerts.isLatched .sessionEnded = false
      ∧ (after .tenancyChange (changing (withLock (.unlocked 9) occupied))).alerts.isLatched
          .sessionEnded = true := by decide

theorem witness_TenancyCompletes :
    let s : State := { leaving [record 1 false] with time := { vacant.time with mono := 1060 } }
    running s = true ∧ s.ret.tenancy = .closing ∧ s.closing = some s.time.mono
      ∧ vacant.ret.tenancy ≠ .closing ∧ running (leaving [record 1 true]) = true
      ∧ (leaving [record 1 true]).ret.records.map (·.offered) = [true]
      ∧ (record 1 false).offered = false := by decide

/-- PIN ENTRY of these digits, in hand. -/
def entered (digits : List Byte) (s : State) : State := withLocalUnit (command 3 digits) s

theorem witness_PinEntryIsRefusedInOrder :
    let s (g : RoomRecord) : State := entered [4, 7, 1, 2] (hosting g)
    let takes (s : State) : Bool := decide (LocalTakes s (.command .pinEntry) (command 3 [4, 7, 1, 2]))
    takes (entered [4, 7, 1, 2] (leaving [])) = true ∧ takes (entered [4, 7, 1, 2] vacant) = true
      ∧ takes (s { visitor with lockMode := .barred }) = true ∧ takes (s { visitor with pin := none }) = true
      ∧ takes (s { visitor with lockMode := .off }) = true
      ∧ takes (withLock (.lockout 1900) (s visitor)) = true
      ∧ readPinEntry (command 3 [4, 7, 1, 2]).unit.payload = some { d1 := 4, d2 := 7, d3 := 1, d4 := 2 }
      ∧ (afterLocal (entered [4, 7, 1, 2] (leaving []))).ret.tenancy = .closing
      ∧ (afterLocal (entered [4, 7, 1, 2] vacant)).ret.tenancy = .vacant
      ∧ (afterLocal (s { visitor with lockMode := .barred })).ret.active =
          some { visitor with lockMode := .barred }
      ∧ (afterLocal (s { visitor with pin := none })).ret.active = some { visitor with pin := none }
      ∧ (afterLocal (s { visitor with lockMode := .off })).ret.active = some { visitor with lockMode := .off }
      ∧ visitor.pin ≠ none
      ∧ (afterLocal (withLock (.lockout 1900) (s visitor))).lock.state = .lockout 1900 := by decide

theorem witness_PinEntryComparesThePin :
    let s := entered [4, 7, 1, 2] occupied
    let w := entered [1, 1, 1, 1] occupied
    let w2 := { w with ret := { w.ret with failures := 2 } }
    LocalTakes s (.command .pinEntry) (command 3 [4, 7, 1, 2])
      ∧ LocalTakes w (.command .pinEntry) (command 3 [1, 1, 1, 1])
      ∧ LocalTakes w2 (.command .pinEntry) (command 3 [1, 1, 1, 1])
      ∧ LocalTakes (withLock (.unlocked 1900) w) (.command .pinEntry) (command 3 [1, 1, 1, 1])
      ∧ readPinEntry (command 3 [1, 1, 1, 1]).unit.payload = some { d1 := 1, d2 := 1, d3 := 1, d4 := 1 }
      ∧ (afterLocal s).ret.tenancy = .occupied ∧ (afterLocal s).ret.active = some visitor
      ∧ visitor.lockMode = .pin ∧ visitor.pin = some { d1 := 4, d2 := 7, d3 := 1, d4 := 2 }
      ∧ (afterLocal w).lock.state = .locked ∧ (afterLocal w).ret.failures < 2
      ∧ (afterLocal w2).ret.failures = 2
      ∧ (afterLocal (withLock (.unlocked 1900) w)).lock.state = .unlocked 1900 := by decide

theorem witness_RelockAndLockResetCloseTheLock :
    let r (l : LockState) := withLock l (withLocalUnit (command 4 []) occupied)
    let x (l : LockState) := withLock l (withFeedUnit (directive 6 []) occupied)
    LocalTakes (r .locked) (.command .relock) (command 4 [])
      ∧ LocalTakes (r (.unlocked 9)) (.command .relock) (command 4 [])
      ∧ FeedTakes (x (.unlocked 9)) .lockReset (directive 6 [])
      ∧ FeedTakes (x (.lockout 9)) .lockReset (directive 6 [])
      ∧ readRelock (command 4 []).unit.payload = some ()
      ∧ (afterLocal (r (.unlocked 9))).lock.state = .unlocked 9 ∧ (afterLocal (r .locked)).lock.state = .locked
      ∧ FeedTakes (x .locked) .lockReset (directive 6 []) ∧ readNoBody (directive 6 []).unit.payload = some ()
      ∧ (afterFeed (x (.unlocked 9))).lock.state = .unlocked 9
      ∧ (afterFeed (x (.lockout 9))).lock.state = .lockout 9
      ∧ (afterFeed (x .locked)).lock.state = .locked := by decide

theorem witness_LockExpiriesCloseTheLock :
    let u := withLock (.unlocked 1000) occupied
    let l := withLock (.lockout 1000) occupied
    running u = true ∧ u.lock.state = .unlocked u.time.mono
      ∧ running l = true ∧ l.lock.state = .lockout l.time.mono
      ∧ u.model.windowFirst = false
      ∧ ({ u with model := { u.model with windowFirst := true } } : State).model.windowFirst = true
      ∧ running heldLow = false ∧ (withLock (.unlocked 1001) occupied).lock.state ≠ .unlocked 1000 := by decide

/-- PURCHASE of a label, in hand. -/
def ordering (label : Byte) (s : State) : State := withLocalUnit (command 2 [2, label, 0, 0]) s

/-- A part with this many live purchases and records. -/
def crowded (purchases records : Nat) : State :=
  { occupied with
    ret := { occupied.ret with
      purchases := List.replicate purchases { film 3 (.grace 300 0 3600) with film := 1 }
      records := List.replicate records (record 1 true) } }

set_option maxRecDepth 8000 in
theorem witness_PurchaseIsRefusedInOrder :
    let e (s : State) : State := evalBillingDay (afterLocal s)
    let takes (label : Byte) (s : State) : Bool :=
      decide (LocalTakes (ordering label s) (.command .purchase) (command 2 [2, label, 0, 0]))
    takes 219 occupied = true ∧ takes 219 (leaving []) = true
      ∧ takes 219 { vacant with emergency := some 5 } = true
      ∧ takes 219 { vacant with time := { vacant.time with building := none } } = true
      ∧ takes 219 vacant = true ∧ takes 0 occupied = true ∧ takes 220 occupied = true
      ∧ takes 219 (crowded 8 0) = true ∧ takes 219 (crowded 7 25) = true
      ∧ takes 219 (hosting { visitor with spendLimit := 0 }) = true
      ∧ readPurchase (command 2 [2, 219, 0, 0]).unit.payload = some 731
      ∧ (afterLocal (ordering 219 (leaving []))).ret.tenancy = .closing
      ∧ (afterLocal (ordering 219 { vacant with emergency := some 5 })).emergency ≠ none
      ∧ (afterLocal (ordering 219 { vacant with
          time := { vacant.time with building := none } })).time.building = none
      ∧ (afterLocal (ordering 219 vacant)).ret.tenancy = .vacant
      ∧ (afterLocal (ordering 219 vacant)).time.building ≠ none
      ∧ (afterLocal (ordering 219 vacant)).emergency = none
      ∧ serviceRow (e (ordering 0 occupied)) 512 = none
      ∧ (serviceRow (e (ordering 0 occupied)) 5).map (·.access) = some .openToAll
      ∧ isBought (e (ordering 219 (buying (film 3 (.grace 300 0 3600))))) 9001 = true
      ∧ isBought (e (ordering 219 occupied)) 9001 = false
      ∧ lockTest (e (ordering 220 occupied)) 6 = .locked
      ∧ lockTest (e (ordering 220 (hosting { visitor with lockMode := .barred }))) 6 = .barred
      ∧ lockTest (e (ordering 220 (withLock (.unlocked 9)
          (hosting { visitor with window := some { opens := 79200, closes := 21600 } })))) 6 = .outOfWindow
      ∧ lockTest (e (ordering 219 occupied)) 0 = .pass
      ∧ 8 ≤ (e (ordering 219 (crowded 8 0))).ret.purchases.length
      ∧ (e (ordering 219 (crowded 7 25))).ret.records.length
          + (e (ordering 219 (crowded 7 25))).ret.purchases.length + 1 = 33
      ∧ (serviceRow (e (ordering 219 (hosting { visitor with spendLimit := 0 }))) 731).map
          (overLimit (e (ordering 219 (hosting { visitor with spendLimit := 0 })))) = some true
      ∧ occupied.ret.tenancy = .occupied ∧ occupied.ret.active = some visitor := by decide

set_option maxRecDepth 8000 in
theorem witness_PurchaseIsAccepted :
    let s := ordering 219 (crowded 7 24)
    let e := evalBillingDay (afterLocal s)
    LocalTakes s (.command .purchase) (command 2 [2, 219, 0, 0])
      ∧ readPurchase (command 2 [2, 219, 0, 0]).unit.payload = some 731
      ∧ (afterLocal s).ret.tenancy = .occupied ∧ (afterLocal s).emergency = none
      ∧ (afterLocal s).time.building ≠ none ∧ (serviceRow e 731).map (·.access) = some .film
      ∧ (serviceRow e 731).map (·.grace) = some 300 ∧ (serviceRow e 733).map (·.grace) = some 0
      ∧ isBought e 9001 = false ∧ lockTest e 0 = .pass ∧ e.ret.purchases.length < 8
      ∧ e.ret.records.length + e.ret.purchases.length + 1 = 32
      ∧ (serviceRow e 731).map (overLimit e) = some false := by decide

theorem witness_PurchaseEnds :
    let p := film 3 (.grace 300 0 3600)
    let s := withFeedUnit (directive 7 [35, 41, 0, 0]) (buying p)
    let n := withFeedUnit (directive 7 [35, 41, 0, 0]) vacant
    FeedTakes s .purchaseVoid (directive 7 [35, 41, 0, 0])
      ∧ readNumber (directive 7 [35, 41, 0, 0]).unit.payload = some 9001
      ∧ (afterFeed s).ret.purchases.find? (fun x => decide (x.film = 9001)) = some p
      ∧ FeedTakes n .purchaseVoid (directive 7 [35, 41, 0, 0]) ∧ (afterFeed n).ret.purchases = []
      ∧ purchaseOf (buying p) 3 = some p := by decide

/-- The live purchase of the tests in the second step, under a record with this spend limit and this many
records in the queue. -/
def metered (limit records : Nat) : State :=
  { hosting { visitor with spendLimit := limit } with
    ret := { (hosting { visitor with spendLimit := limit }).ret with
      purchases := [film 3 (.running 1 0 1)]
      records := List.replicate records (record 1 true) } }

theorem witness_ChargesAreTested :
    (metered 5000 0).ret.purchases[0]? = some (film 3 (.running 1 0 1))
      ∧ (film 3 (.running 1 0 1)).number = 3 ∧ (film 2 (.running 1 0 1)).number ≠ 3
      ∧ [film 2 (.running 1 0 1), film 3 (.running 1 0 1)][1]? = some (film 3 (.running 1 0 1))
      ∧ (film 3 (.running 1 0 1)).total ≤ 99999999
      ∧ chargeAmount { film 3 (.running 1 0 1) with total := 2500 } 1 1 = 0
      ∧ chargeAmount (film 3 (.running 1 0 1)) 1 1 = 350
      ∧ chargeFate (metered 349 0) 350 = .overLimit ∧ chargeFate (metered 350 32) 350 = .noPlace
      ∧ chargeFate (metered 350 31) 350 = .noPlace ∧ chargeFate (metered 350 30) 350 = .posted := by decide

theorem witness_MeterTakesTheSecond :
    let g (seen lapse : Nat) : State := owing (buying (film 3 (.grace 300 seen lapse)))
    let r (position k remaining : Nat) : State := owing (buying (film 3 (.running position k remaining)))
    let viewedA (s : State) : State := { s with outA := { s.outA with selected := 731, viewed := true } }
    (g 299 1).ret.purchases[0]? = some (film 3 (.grace 300 299 1))
      ∧ (r 1 2 1).ret.purchases[0]? = some (film 3 (.running 1 2 1))
      ∧ (film 3 (.running 1 2 1)).number = 3 ∧ (film 2 (.running 1 0 1)).number ≠ 3
      ∧ [film 2 (.running 1 0 1), film 3 (.running 1 2 1)][1]? = some (film 3 (.running 1 2 1))
      ∧ (stepAt (film 3 (.running 1 2 1)).steps 1).repeats = 3 ∧ (film 3 (.running 1 3 1)).steps.length = 2
      ∧ (stepAt (film 3 (.running 1 2 1)).steps 1).measure = .elapsed
      ∧ (stepAt (film 3 (.running 0 0 1)).steps 0).measure = .viewed
      ∧ running (g 299 1) = true ∧ Consumer.meter ∈ (g 299 1).model.due ∧ (g 299 1).emergency = none
      ∧ isViewed (viewedA (g 299 9)) 9001 = true ∧ isViewed (g 299 1) 9001 = false
      ∧ Consumer.meter ∉ occupied.model.due := by decide

theorem witness_EmergencyHoldsThePurchases :
    ({ buying (film 3 (.running 1 0 1)) with emergency := some 5 } : State).emergency ≠ none := by decide

theorem witness_PostFillsTheRecord :
    occupied.ret.active = some visitor
      ∧ ({ occupied with time := { occupied.time with building := none } } : State).time.building = none
      ∧ occupied.time.building = some { day := 20410, second := 39600 } := by decide

theorem witness_BillingReceiptReleasesRecords :
    let s := withFeedUnit (directive 8 [0, 2, 0, 0]) (leaving [record 1 true, record 2 true, record 3 false])
    FeedTakes s .billingReceipt (directive 8 [0, 2, 0, 0])
      ∧ readNumber (directive 8 [0, 2, 0, 0]).unit.payload = some 2
      ∧ (afterFeed s).ret.records = [record 1 true] ++ record 2 true :: [record 3 false]
      ∧ (record 2 true).serial = 2 ∧ (record 1 true).serial ≠ 2
      ∧ FeedTakes (withFeedUnit (directive 8 [0, 2, 0, 0]) vacant) .billingReceipt (directive 8 [0, 2, 0, 0])
      ∧ (afterFeed (withFeedUnit (directive 8 [0, 2, 0, 0]) vacant)).ret.records = [] := by decide

theorem witness_BillingPollMovesThePosition :
    let s := withFeedUnit (directive 9 [0, 2, 0, 0]) (leaving [record 1 true, record 2 true])
    FeedTakes s .billingPoll (directive 9 [0, 2, 0, 0])
      ∧ readNumber (directive 9 [0, 2, 0, 0]).unit.payload = some 2
      ∧ (afterFeed s).ret.records.map (·.serial) = [1, 2]
      ∧ FeedTakes (withFeedUnit (directive 9 [0, 0, 0, 0]) vacant) .billingPoll (directive 9 [0, 0, 0, 0])
      ∧ field (directiveBody (directive 9 [0, 0, 0, 0]).unit.payload) 0 2 = 0
      ∧ FeedTakes (withFeedUnit (directive 9 [0, 2, 0, 1]) vacant) .billingPoll (directive 9 [0, 2, 0, 1])
      ∧ byteAt (directiveBody (directive 9 [0, 2, 0, 1]).unit.payload) 3 ≠ 0
      ∧ byteAt (directiveBody (directive 9 [0, 2, 1, 0]).unit.payload) 2 ≠ 0 := by decide

theorem witness_ReturnPortSendsUnits :
    let b : State := { leaving [record 7 true] with offer := some 7 }
    let q : State := { vacant with results := [reply] }
    live q = true ∧ q.results = reply :: [] ∧ q.port.inProgress = none
      ∧ live b = true ∧ b.results = [] ∧ b.port.inProgress = none ∧ b.offer = some 7
      ∧ b.ret.records.find? (fun x => x.serial == 7) = some (record 7 true)
      ∧ (after (.resultUnitBegin true) q).port.inProgress.map (·.kind) = some .result
      ∧ (after (.billingUnitBegin true) b).port.inProgress.map (·.kind) = some (.billing 7)
      ∧ (after (.billingUnitBegin true) b).ret.records.map (·.serial) = [7]
      ∧ sending.port.inProgress ≠ none ∧ live sending = true ∧ vacant.results = [] ∧ vacant.offer = none
      ∧ ({ vacant with offer := some 7 } : State).offer = some 7 ∧ vacant.ret.records = []
      ∧ sending.port.inProgress.map (·.kind) = some .result
      ∧ (record 7 true).entry = .ended .void 0 := by decide

theorem witness_SelectGivesAnOutputItsLabel :
    let c (high low : Byte) : StampedUnit := command 1 [1, 0, high, low]
    LocalTakes (withLocalUnit (c 0 5) vacant) (.command .select) (c 0 5)
      ∧ readSelect (c 0 5).unit.payload = some (.a, 5)
      ∧ LocalTakes (withLocalUnit (c 0 5) { vacant with emergency := some 6 }) (.command .select) (c 0 5)
      ∧ LocalTakes (withLocalUnit (c 0x0F 0xF0) vacant) (.command .select) (c 0x0F 0xF0)
      ∧ readSelect (c 0x0F 0xEF).unit.payload = some (.a, 4079)
      ∧ readSelect (c 0x0F 0xF0).unit.payload = some (.a, 4080)
      ∧ (afterLocal (withLocalUnit (c 0 5) vacant)).emergency = none
      ∧ (afterLocal (withLocalUnit (c 0 5) { vacant with emergency := some 6 })).emergency ≠ none := by decide

theorem witness_EmergencyTakesBothOutputs :
    let on (low : Byte) : StampedUnit := directive 10 [1, 0, 0, low]
    let off : StampedUnit := directive 10 [2, 0, 0, 0]
    FeedTakes (withFeedUnit (on 5) vacant) .emergencyOn (on 5)
      ∧ FeedTakes (withFeedUnit (on 9) vacant) .emergencyOn (on 9)
      ∧ FeedTakes (withFeedUnit (on 5) { vacant with emergency := some 5 }) .emergencyOn (on 5)
      ∧ FeedTakes (withFeedUnit off { vacant with emergency := some 5 }) .emergencyOff off
      ∧ readEmergencyOn (on 5).unit.payload = some 5 ∧ readEmergencyOn (on 9).unit.payload = some 9
      ∧ serviceRow (afterFeed (withFeedUnit (on 9) vacant)) 9 = none
      ∧ (serviceRow (afterFeed (withFeedUnit (on 5) vacant)) 5).map (·.access) = some .openToAll
      ∧ (afterFeed (withFeedUnit (on 5) { vacant with emergency := some 5 })).emergency = some 5
      ∧ (afterFeed (withFeedUnit (on 5) vacant)).emergency = none
      ∧ FeedTakes (withFeedUnit off vacant) .emergencyOff off
      ∧ readEmergencyOff off.unit.payload = some ()
      ∧ (afterFeed (withFeedUnit off { vacant with emergency := some 5 })).emergency ≠ none := by decide

theorem witness_OutputStageSendsUnits :
    live vacant = true
      ∧ (output { vacant with outA := { vacant.outA with queue := [shown] } } .a).queue = shown :: []
      ∧ (output vacant .a).transfer = none ∧ (output vacant .b).queue = []
      ∧ (output (after (.outputUnitBegin .a true)
          { vacant with outA := { vacant.outA with queue := [shown] } }) .a).transfer ≠ none := by decide

theorem witness_AlertCommandsTakeEffectWhole :
    let setup := command 6 ([7, 2] ++ levels15 ++ [0, 0, 0])
    let clear := command 7 [0, 0, 0x20, 0]
    LocalTakes (withLocalUnit setup vacant) (.command .alertSetup) setup
      ∧ (readAlertSetup setup.unit.payload).map (·.mask) = some 7
      ∧ LocalTakes (withLocalUnit clear vacant) (.command .alertClear) clear
      ∧ readAlertClear clear.unit.payload = some 0x2000 := by decide

theorem witness_AlertLineFollowsTheFlags :
    (∀ n ∈ vacant.alerts.levels, 1 ≤ n ∧ n ≤ 6) ∧ vacant.alerts.mask = 0
      ∧ ({ vacant.alerts with mask := 7 } : AlertUnit).mask = 7
      ∧ AlertSource.installationFault ≠ .emergency
      ∧ AlertSource.installationFault.code + 1 = vacant.alerts.levels.length := by decide

set_option maxRecDepth 8000 in
theorem witness_UnitLayoutRoundTrip :
    (media 731 .phaseA 9).unit.payload.length = 124 ∧ ([0xB5, 0x2D, 0xBA, 0x9F] ++ zeros 124).length = 128
      ∧ ([0xB5, 0x2D, 0xBA, 0x9F] ++ zeros 124).head? = some 0xB5 := by decide

/-- A part with a live purchase, records, a reference, a key slot, an open lock and a unit queued, that
is about to take a second event. -/
def busy : State :=
  let s := buying (film 3 (.running 1 0 1))
  { withLock (.unlocked 1900) s with
    ret := { s.ret with records := [record 1 true, record 2 false], nextSerial := 3, nextPurchase := 4 }
    merge := { s.merge with refs := [{ label := 731, sequence := 5 }] }
    keys := { s.keys with slots := some (keyed 212 false true 1) :: List.replicate 23 none }
    outA := { s.outA with selected := 731, queue := [shown] }
    offer := some 2
    pending := [.secondEvent] }

theorem witness_StepKeepsCapacitiesAndReferences :
    WithinCapacity busy ∧ ReferencesSelected busy ∧ ∃ t, step busy = .next t :=
  ⟨by decide, by decide, _, rfl⟩

theorem witness_StepKeepsTheReservation : ReservationKept busy ∧ ∃ t, step busy = .next t :=
  ⟨by decide, _, rfl⟩

theorem witness_StepKeepsConditionsLatched :
    ConditionsLatched busy ∧ LevelsKept busy ∧ ∃ t, step busy = .next t :=
  ⟨by decide, by decide, _, rfl⟩

theorem witness_StepKeepsQueuesAdmitted : Prompt busy ∧ QueuesAdmitted busy ∧ ∃ t, step busy = .next t :=
  ⟨by decide, by decide, _, rfl⟩

theorem witness_StepKeepsSlotsEntitled : SlotsEntitled busy ∧ ∃ t, step busy = .next t :=
  ⟨by decide, _, rfl⟩

theorem witness_StepKeepsTheLockClosedWithoutGuest : LockedWithoutGuest busy ∧ ∃ t, step busy = .next t :=
  ⟨by decide, _, rfl⟩

theorem witness_StepKeepsSerialsConsecutive : SerialsConsecutive busy ∧ ∃ t, step busy = .next t :=
  ⟨fun _ => ⟨rfl, rfl⟩, _, rfl⟩

theorem witness_StepKeepsPurchasesDistinct : PurchasesDistinct busy ∧ ∃ t, step busy = .next t :=
  ⟨by decide, _, rfl⟩

end Sys2Proof.Tests
end

section
/-!
What the events of the part leave of its buffers and queues (`Carried`), and the capacities and sequence
references that every step keeps (`Bounded`).
-/
namespace Sys2Proof.Machine

/-! ### What no consumer of an event changes of the buffers and queues -/

/-- The consumers of an event leave an output its selection, its unit in transfer and the number of its
queued units. -/
structure Output.Held (before after : Output) : Prop where
  selected : after.selected = before.selected
  transfer : after.transfer = before.transfer
  waiting : after.queue.length = before.queue.length

theorem Output.Held.refl (out : Output) : out.Held out := ⟨rfl, rfl, rfl⟩

theorem Output.Held.trans {a b c : Output} (h : a.Held b) (k : b.Held c) : a.Held c :=
  ⟨k.selected.trans h.selected, k.transfer.trans h.transfer, k.waiting.trans h.waiting⟩

theorem Output.purged_held (adm : Nat → Verdict) (out : Output) : out.Held (out.purged adm) :=
  ⟨rfl, rfl, purged_length adm out⟩

theorem Output.rowLost_held (hasRow : Nat → Bool) (out : Output) : out.Held (out.rowLost hasRow) := by
  unfold Output.rowLost
  split
  · exact ⟨rfl, rfl, rfl⟩
  · exact .refl out

/-- The buffers and queues of `t` hold as much as those of `s`, under the same selections. -/
structure Carried (s t : State) : Prop where
  merge : t.merge = s.merge
  results : t.results = s.results
  port : t.port = s.port
  slots : t.keys.slots.length = s.keys.slots.length
  outA : s.outA.Held t.outA
  outB : s.outB.Held t.outB

theorem Carried.refl (s : State) : Carried s s := ⟨rfl, rfl, rfl, rfl, .refl _, .refl _⟩

theorem Carried.trans {s t u : State} (h : Carried s t) (k : Carried t u) : Carried s u :=
  ⟨k.merge.trans h.merge, k.results.trans h.results, k.port.trans h.port, k.slots.trans h.slots,
    h.outA.trans k.outA, h.outB.trans k.outB⟩

theorem Carried.foldl {α : Type} (f : State → α → State) (hf : ∀ s a, Carried s (f s a)) :
    ∀ (l : List α) (s : State), Carried s (l.foldl f s)
  | [], s => .refl s
  | a :: l, s => (hf s a).trans (Carried.foldl f hf l (f s a))

/-- An operation that leaves the buffers, the slots and the outputs as they are carries them. -/
theorem Carried.of_eq {s t : State} (merge : t.merge = s.merge) (results : t.results = s.results)
    (port : t.port = s.port) (slots : t.keys.slots = s.keys.slots) (outA : t.outA = s.outA)
    (outB : t.outB = s.outB) : Carried s t :=
  ⟨merge, results, port, congrArg _ slots, outA ▸ .refl _, outB ▸ .refl _⟩

theorem latch_carried (src : AlertSource) (s : State) : Carried s (latch src s) :=
  .of_eq rfl rfl rfl rfl rfl rfl

theorem purge_carried (s : State) : Carried s (purge s) :=
  ⟨rfl, rfl, rfl, rfl, Output.purged_held _ _, Output.purged_held _ _⟩

theorem flushKeys_carried (keep : KeySlot → Bool) (s : State) : Carried s (flushKeys keep s) :=
  ⟨rfl, rfl, rfl, flushSlots_length _ _, .refl _, .refl _⟩

theorem setFailures_carried (n : Nat) (s : State) : Carried s (setFailures n s) :=
  .of_eq rfl rfl rfl rfl rfl rfl

theorem evalMembership_carried (s : State) : Carried s (evalMembership s) :=
  .of_eq rfl rfl rfl rfl rfl rfl

theorem withMachine_carried (t : Table) (m : TableMachine) (s : State) : Carried s (withMachine t m s) :=
  .of_eq rfl rfl rfl rfl rfl rfl

theorem usedChoice_carried (s : State) : Carried s (usedChoice s) := .of_eq rfl rfl rfl rfl rfl rfl

theorem paid_carried (c : Consumer) (s : State) : Carried s (paid c s) := .of_eq rfl rfl rfl rfl rfl rfl

/-! ### The Lock Unit -/

theorem leaveUnlocked_carried (s : State) : Carried s (leaveUnlocked s) :=
  Carried.trans (t := latch .sessionEnded { s with lock := { s.lock with state := .locked } })
    (.of_eq rfl rfl rfl rfl rfl rfl) (purge_carried _)

theorem closeLock_carried (s : State) : Carried s (closeLock s) := by
  rcases closeLock_cases s with ⟨_, e⟩ | ⟨_, _, e⟩ | ⟨_, _, e⟩ <;> rw [e]
  · exact .refl s
  · exact leaveUnlocked_carried s
  · exact .of_eq rfl rfl rfl rfl rfl rfl

theorem expiryEvent_carried (s : State) : Carried s (expiryEvent s) := by
  rcases expiryEvent_cases s with e | ⟨_, _, e⟩ | ⟨_, _, e⟩ <;> rw [e]
  · exact .refl s
  · exact leaveUnlocked_carried s
  · exact .of_eq rfl rfl rfl rfl rfl rfl

theorem windowEvent_carried (s : State) : Carried s (windowEvent s) := by
  rcases windowEvent_cases s with ⟨_, e⟩ | ⟨_, _, e⟩ | ⟨_, _, e⟩ <;> rw [e]
  · exact .refl s
  · exact (evalMembership_carried s).trans (purge_carried _)
  · exact evalMembership_carried s

theorem lockEvent_carried (s : State) : Carried s (lockEvent s) := by
  rcases lockEvent_cases s with ⟨_, e⟩ | ⟨_, e⟩ <;> rw [e]
  · exact (expiryEvent_carried s).trans (windowEvent_carried _)
  · exact (windowEvent_carried s).trans (expiryEvent_carried _)

/-! ### The Purchase Meter -/

theorem purchaseEnded_carried (film : Nat) (s : State) : Carried s (purchaseEnded film s) :=
  (flushKeys_carried _ s).trans (purge_carried _)

theorem endPurchase_carried (n : Nat) (reason : EndReason) (s : State) :
    Carried s (endPurchase n reason s) := by
  rcases endPurchase_cases n reason s with ⟨_, e⟩ | ⟨_, _, e⟩ <;> rw [e]
  · exact .refl s
  · refine Carried.trans ?_ (purchaseEnded_carried _ _)
    exact .of_eq rfl rfl rfl rfl rfl rfl

theorem endAll_carried (reason : EndReason) (s : State) : Carried s (endAll reason s) :=
  Carried.foldl _ (fun s n => endPurchase_carried n reason s) _ s

theorem beginRepetition_carried (n position k : Nat) (s : State) :
    Carried s (beginRepetition n position k s) := by
  rcases beginRepetition_cases n position k s with
    ⟨_, e⟩ | ⟨_, _, ⟨_, e⟩ | ⟨_, e⟩ | ⟨_, e⟩ | ⟨_, e⟩⟩ <;> rw [e]
  · exact .refl s
  · exact .of_eq rfl rfl rfl rfl rfl rfl
  · exact endPurchase_carried ..
  · exact endPurchase_carried ..
  · exact .of_eq rfl rfl rfl rfl rfl rfl

theorem meterPurchase_carried (n : Nat) (viewed : Bool) (s : State) :
    Carried s (meterPurchase n viewed s) := by
  rcases meterPurchase_cases n viewed s with e | ⟨_, e⟩ | ⟨_, _, e⟩ | ⟨_, e⟩ <;> rw [e]
  · exact .refl s
  · exact .of_eq rfl rfl rfl rfl rfl rfl
  · exact beginRepetition_carried ..
  · exact endPurchase_carried ..

theorem evalBillingDay_carried (s : State) : Carried s (evalBillingDay s) := by
  obtain ⟨_, _, e, _⟩ := evalBillingDay_ret s
  rw [e]
  exact .of_eq rfl rfl rfl rfl rfl rfl

theorem clearViewed_carried (s : State) : Carried s (clearViewed s) :=
  ⟨rfl, rfl, rfl, rfl, ⟨rfl, rfl, rfl⟩, ⟨rfl, rfl, rfl⟩⟩

theorem meterAll_carried (s0 s : State) : Carried s (meterAll s0 s) :=
  Carried.foldl (fun (s : State) (p : Purchase) => meterPurchase p.number (isViewed s0 p.film) s)
    (fun s p => meterPurchase_carried p.number _ s) s0.ret.purchases s

theorem meterSecond_carried (s : State) : Carried s (meterSecond s) := by
  unfold meterSecond
  split
  · refine (evalBillingDay_carried s).trans ?_
    dsimp only
    split
    · exact clearViewed_carried _
    · exact (meterAll_carried _ _).trans (clearViewed_carried _)
  · exact .refl s

/-! ### The Table Loader -/

theorem serviceCommitted_carried (s : State) : Carried s (serviceCommitted s) := by
  have lost (out : Output) := out.rowLost_held fun label => (serviceRow s label).isSome
  refine (flushKeys_carried (slotOk s) s).trans (Carried.trans ?_ (purge_carried _))
  exact ⟨rfl, rfl, rfl, rfl, lost s.outA, lost s.outB⟩

theorem commit_carried (t : Table) (s : State) : Carried s (commit t s) := by
  rcases commit_cases t s with ⟨_, e⟩ | ⟨_, _, _, _, rfl, ⟨_, e⟩ | ⟨_, e⟩⟩ <;> rw [e]
  · exact .refl s
  · exact (withMachine_carried ..).trans (latch_carried ..)
  · exact ((withMachine_carried ..).trans (latch_carried ..)).trans (serviceCommitted_carried _)

theorem decideCommit_carried (later : Bool) (t : Table) (s : State) :
    Carried s (decideCommit later t s) := by
  unfold decideCommit
  split
  · exact withMachine_carried ..
  · exact commit_carried ..

theorem commitIfDue_carried (t : Table) (s : State) : Carried s (commitIfDue t s) := by
  unfold commitIfDue
  split
  · exact commit_carried t s
  · exact .refl s

theorem commitsDue_carried (s : State) : Carried s (commitsDue s) :=
  (commitIfDue_carried .service s).trans (commitIfDue_carried .tariff _)

theorem activateIfReached_carried (t : Table) (s : State) : Carried s (activateIfReached t s) := by
  unfold activateIfReached
  split
  · exact commit_carried t s
  · exact .refl s

theorem loaderEvent_carried (s : State) : Carried s (loaderEvent s) :=
  (activateIfReached_carried .service s).trans (activateIfReached_carried .tariff _)

/-! ### The Tenancy Unit -/

theorem completeTenancy_carried (s : State) : Carried s (completeTenancy s) := by
  unfold completeTenancy
  refine Carried.trans ?_ (purge_carried _)
  exact .of_eq rfl rfl rfl rfl rfl rfl

theorem testCompletion_carried (s : State) : Carried s (testCompletion s) := by
  rcases testCompletion_cases s with ⟨_, _, _, e⟩ | e <;> rw [e]
  · exact completeTenancy_carried s
  · exact .refl s

theorem tenancySecond_carried (s : State) : Carried s (tenancySecond s) := by
  unfold tenancySecond
  split
  · exact completeTenancy_carried s
  · exact .refl s

/-! ### The consumers of the events -/

theorem takeSecond_carried (c : Consumer) (s : State) : Carried s (takeSecond c s) := by
  cases c with
  | lock => exact lockEvent_carried s
  | meter => exact meterSecond_carried s
  | loader => exact loaderEvent_carried s
  | tenancy => exact tenancySecond_carried s
  | keys => exact .refl s
  | gate => exact .refl s

theorem deliverSecond_carried (later : List Consumer) (c : Consumer) (s : State) :
    Carried s (deliverSecond later c s) := by
  unfold deliverSecond
  split
  · exact .of_eq rfl rfl rfl rfl rfl rfl
  · exact takeSecond_carried c s

theorem settle_carried (s : State) : Carried s (settle s) :=
  Carried.trans (t := { s with model := { s.model with due := [] } }) (.of_eq rfl rfl rfl rfl rfl rfl)
    (Carried.foldl _ (fun s c => takeSecond_carried c s) _ _)

theorem takeStep_carried (c : Consumer) (s : State) : Carried s (takeStep c s) := by
  cases c with
  | lock => exact windowEvent_carried s
  | meter => exact evalBillingDay_carried s
  | loader => exact loaderEvent_carried s
  | tenancy => exact .refl s
  | keys => exact .refl s
  | gate => exact .refl s

theorem takeClosing_carried (c : Consumer) (s : State) : Carried s (takeClosing c s) := by
  cases c with
  | lock => exact ((closeLock_carried s).trans (setFailures_carried 0 _)).trans (evalMembership_carried _)
  | meter => exact endAll_carried _ s
  | loader => exact .refl s
  | tenancy => exact .refl s
  | keys => exact flushKeys_carried _ s
  | gate => exact purge_carried s

theorem takeRecordChanged_carried (differs : Bool) (c : Consumer) (s : State) :
    Carried s (takeRecordChanged differs c s) := by
  cases c with
  | lock =>
    refine Carried.trans ?_ (evalMembership_carried _)
    split
    · exact (closeLock_carried s).trans (setFailures_carried 0 _)
    · exact .refl s
  | meter => exact .refl s
  | loader => exact .refl s
  | tenancy => exact .refl s
  | keys => exact flushKeys_carried _ s
  | gate => exact purge_carried s

theorem secondEvent_carried (s : State) : Carried s (secondEvent s) := by
  unfold secondEvent
  refine (settle_carried s).trans (Carried.trans ?_ (Carried.foldl _ (fun s c => deliverSecond_carried _ c s) _ _))
  exact .of_eq rfl rfl rfl rfl rfl rfl

theorem adoptTime_carried (t : BuildingTime) (s : State) : Carried s (adoptTime t s) := by
  unfold adoptTime
  split
  · exact .refl s
  · refine (settle_carried s).trans (Carried.trans ?_ (Carried.foldl _ (fun s c => takeStep_carried c s) _ _))
    exact .of_eq rfl rfl rfl rfl rfl rfl

/-! ### The owners of the units taken -/

theorem replaceActive_carried (old new : RoomRecord) (s : State) : Carried s (replaceActive old new s) := by
  unfold replaceActive
  refine Carried.trans ?_
    (Carried.foldl _ (fun s c => takeRecordChanged_carried (lockFieldsDiffer old new) c s) _ _)
  exact .of_eq rfl rfl rfl rfl rfl rfl

theorem takeActive_carried (r : RoomRecord) (s : State) : Carried s (takeActive r s) := by
  unfold takeActive
  split
  · split
    · exact replaceActive_carried ..
    · exact latch_carried ..
  · exact latch_carried ..

theorem beginClosing_carried (s : State) : Carried s (beginClosing s) := by
  unfold beginClosing
  refine Carried.trans (t := enterClosing (usedChoice s)) (.of_eq rfl rfl rfl rfl rfl rfl) ?_
  exact (Carried.foldl _ (fun s c => takeClosing_carried c s) _ _).trans (testCompletion_carried _)

theorem receive_carried (serial : Nat) (s : State) : Carried s (receive serial s) := by
  unfold receive
  split
  · exact Carried.trans (t := removeThrough serial s) (.of_eq rfl rfl rfl rfl rfl rfl)
      (testCompletion_carried _)
  · exact .refl s

theorem voidFilm_carried (film : Nat) (s : State) : Carried s (voidFilm film s) := by
  unfold voidFilm
  split
  · exact endPurchase_carried ..
  · exact .refl s

theorem takeEntry_carried (s : State) (e : KeyEntry) : Carried s (takeEntry s e) := by
  unfold takeEntry
  split
  · rcases placeEntry_cases e s with ⟨i, k, h⟩ | h | h <;> rw [h]
    · exact ⟨rfl, rfl, rfl, loadSlot_slots_length i k s, .refl _, .refl _⟩
    · exact latch_carried ..
    · exact .refl s
  · exact .refl s

theorem wrongPin_carried (s : State) : Carried s (wrongPin s) := by
  unfold wrongPin
  split
  · exact (leaveUnlocked_carried s).trans (setFailures_carried ..)
  · split <;> exact .of_eq rfl rfl rfl rfl rfl rfl
  · exact .refl s

theorem enterPin_carried (digits : Pin) (s : State) : Carried s (enterPin digits s).1 := by
  have opened (n : Nat) : Carried s (setFailures 0 (openSession n s)) := .of_eq rfl rfl rfl rfl rfl rfl
  unfold enterPin
  repeat' split
  all_goals first
    | exact .refl s
    | exact opened _
    | exact wrongPin_carried s

theorem relockNow_carried (s : State) : Carried s (relockNow s) := by
  unfold relockNow
  split
  · exact leaveUnlocked_carried s
  · exact .refl s
  · exact .refl s

theorem acceptPurchase_carried (r : ServiceRow) (s : State) : Carried s (acceptPurchase r s) := by
  have added : Carried s (addPurchase (newPurchase s r) s) := .of_eq rfl rfl rfl rfl rfl rfl
  unfold acceptPurchase
  dsimp only
  split
  · exact added.trans (beginRepetition_carried ..)
  · exact added

theorem buyFilm_carried (label : Nat) (s : State) : Carried s (buyFilm label s).1 := by
  unfold buyFilm
  split
  · exact .refl s
  · split
    · exact .refl s
    · exact acceptPurchase_carried _ s

theorem buy_carried (label : Nat) (s : State) : Carried s (buy label s).1 := by
  unfold buy
  repeat' split
  all_goals first
    | exact .refl s
    | exact (evalBillingDay_carried s).trans (buyFilm_carried label _)

theorem takeNotice_carried (serial : Nat) (s : State) : Carried s (takeNotice serial s) := by
  unfold takeNotice
  split
  · refine Carried.trans ?_ (testCompletion_carried _)
    exact .of_eq rfl rfl rfl rfl rfl rfl
  · exact .refl s

theorem startUpCompletion_carried (s : State) : Carried s (startUpCompletion s) := by
  unfold startUpCompletion
  split
  · exact completeTenancy_carried s
  · exact (endAll_carried _ s).trans (evalMembership_carried _)
  · exact evalMembership_carried s

end Sys2Proof.Machine
end

section
/-!
The capacities of the buffers and queues and the references of the selected labels: every command keeps
them.
-/
namespace Sys2Proof.Machine

/-! ### The capacities -/

/-- R165, R166: an Output Queue holds at most 32 units, and of the unit in transfer the last byte has not
left. -/
structure Output.Bounded (out : Output) : Prop where
  queue : out.queue.length ≤ 32
  transfer : ∀ x ∈ out.transfer, x.sent < x.bytes.length

/-- R4, R6, R10: the buffers of the two inputs are within their capacities. -/
structure InputMerge.Bounded (m : InputMerge) : Prop where
  feed : m.feed.length ≤ 64
  localQ : m.localQ.length ≤ 8
  asm : m.asm.length < 128

/-- R32: a unit on the return port has 128 bytes, the last of which has not left. -/
def ReturnPort.Bounded (p : ReturnPort) : Prop :=
  ∀ u ∈ p.inProgress, u.bytes.length = 128 ∧ u.sent < 128

/-- The capacities, block by block. -/
structure Bounded (s : State) : Prop where
  merge : s.merge.Bounded
  results : s.results.length ≤ 8
  slots : s.keys.slots.length = 24
  outA : s.outA.Bounded
  outB : s.outB.Bounded
  port : s.port.Bounded

theorem bounded_iff (s : State) : Bounded s ↔ WithinCapacity s := by
  constructor
  · rintro ⟨⟨feed, localQ, asm⟩, results, slots, ⟨qa, ta⟩, ⟨qb, tb⟩, port⟩
    exact ⟨feed, localQ, asm, results, slots, qa, qb, port, ta, tb⟩
  · rintro ⟨feed, localQ, asm, results, slots, qa, qb, port, ta, tb⟩
    exact ⟨⟨feed, localQ, asm⟩, results, slots, ⟨qa, ta⟩, ⟨qb, tb⟩, port⟩

theorem Output.Held.bounded {a b : Output} (h : a.Held b) (ha : a.Bounded) : b.Bounded :=
  ⟨h.waiting ▸ ha.queue, h.transfer ▸ ha.transfer⟩

theorem Carried.bounded {s t : State} (h : Carried s t) (hs : Bounded s) : Bounded t :=
  ⟨h.merge ▸ hs.merge, h.results ▸ hs.results, h.slots ▸ hs.slots, h.outA.bounded hs.outA,
    h.outB.bounded hs.outB, h.port ▸ hs.port⟩

/-! ### The references -/

/-- R16: references that are some of those there were, with the labels of all of them selected. -/
theorem ReferencesSelected.of_sublist {s t : State} (hs : ReferencesSelected s)
    (refs : t.merge.refs.Sublist s.merge.refs) (selA : t.outA.selected = s.outA.selected)
    (selB : t.outB.selected = s.outB.selected) : ReferencesSelected t := by
  obtain ⟨distinct, selected⟩ := hs
  refine ⟨distinct.sublist (refs.map _), fun r hr => ?_⟩
  simpa only [isSelected, selA, selB] using selected r (refs.subset hr)

theorem Carried.references {s t : State} (h : Carried s t) (hs : ReferencesSelected s) :
    ReferencesSelected t :=
  hs.of_sublist (h.merge ▸ .refl _) h.outA.selected h.outB.selected

/-- R16: whatever was selected before, the references left after a change of selection are of labels that
are selected now. -/
theorem dropReferences_references (given : List Nat) {s : State} (hs : (s.merge.refs.map (·.label)).Nodup) :
    ReferencesSelected (dropReferences given s) := by
  refine ⟨hs.sublist (List.filter_sublist.map _), fun r hr => ?_⟩
  have kept := (List.mem_filter.mp hr).2
  simp only [Bool.and_eq_true] at kept
  exact kept.2

/-- R17: the reference of a selected label takes the unit's sequence, and the label has no other. -/
theorem checkSequence_references {u : CarriageUnit} {s : State} (hs : ReferencesSelected s)
    (hu : isSelected s u.label.toNat = true) : ReferencesSelected (checkSequence u s) := by
  obtain ⟨distinct, selected⟩ := hs
  refine ⟨?_, fun r hr => ?_⟩
  · refine List.nodup_cons.mpr ⟨?_, distinct.sublist (List.filter_sublist.map _)⟩
    simp
  · rcases List.mem_cons.mp hr with rfl | old
    · exact hu
    · exact selected r (List.mem_filter.mp old).1

/-! ### What every step keeps -/

/-- The capacities, and the references of selected labels alone. -/
structure Sound (s : State) : Prop where
  bounded : Bounded s
  references : ReferencesSelected s

theorem sound_iff (s : State) : Sound s ↔ WithinCapacity s ∧ ReferencesSelected s :=
  ⟨fun h => ⟨(bounded_iff s).mp h.bounded, h.references⟩, fun h => ⟨(bounded_iff s).mpr h.1, h.2⟩⟩

theorem Carried.sound {s t : State} (h : Carried s t) (hs : Sound s) : Sound t :=
  ⟨h.bounded hs.bounded, h.references hs.references⟩

/-- An operation of the other blocks. -/
theorem Sound.of_eq {s t : State} (hs : Sound s) (merge : t.merge = s.merge) (results : t.results = s.results)
    (port : t.port = s.port) (slots : t.keys.slots = s.keys.slots) (outA : t.outA = s.outA)
    (outB : t.outB = s.outB) : Sound t :=
  (Carried.of_eq merge results port slots outA outB).sound hs

/-- An operation of the inputs, the Result Queue and the return port that keeps their capacities and the
references. -/
theorem Sound.of_parts {s t : State} (hs : Sound s) (merge : t.merge.Bounded) (refs : t.merge.refs = s.merge.refs)
    (results : t.results.length ≤ 8) (port : t.port.Bounded) (slots : t.keys.slots = s.keys.slots)
    (outA : t.outA = s.outA) (outB : t.outB = s.outB) : Sound t :=
  ⟨⟨merge, results, slots ▸ hs.bounded.slots, outA ▸ hs.bounded.outA, outB ▸ hs.bounded.outB, port⟩,
    hs.references.of_sublist (refs ▸ .refl _) (congrArg _ outA) (congrArg _ outB)⟩

/-! ### The inputs -/

theorem evalShed_sound {s : State} (hs : Sound s) : Sound (evalShed s) := by
  obtain ⟨⟨⟨feed, localQ, asm⟩, results, slots, outA, ⟨queueB, transferB⟩, port⟩, references⟩ := hs
  refine ⟨⟨⟨feed, localQ, asm⟩, results, slots, outA, ⟨queueB, transferB⟩, port⟩, ?_⟩
  refine references.of_sublist ?_ rfl rfl
  show (if shedEnds s then _ else _ : List SequenceRef).Sublist _
  split
  · exact List.filter_sublist
  · exact .refl _

theorem tookFeed_sound {s : State} (hs : Sound s) : Sound (tookFeed s) := by
  have merge := hs.bounded.merge
  refine evalShed_sound (hs.of_parts ⟨?_, merge.localQ, merge.asm⟩ rfl hs.bounded.results hs.bounded.port
    rfl rfl rfl)
  exact (List.tail_sublist _).length_le.trans merge.feed

theorem tookLocal_sound {s : State} (hs : Sound s) : Sound (tookLocal s) := by
  have merge := hs.bounded.merge
  refine hs.of_parts ⟨merge.feed, ?_, merge.asm⟩ rfl hs.bounded.results hs.bounded.port rfl rfl rfl
  exact (List.tail_sublist _).length_le.trans merge.localQ

theorem offerFeed_sound (u : CarriageUnit) {s : State} (hs : Sound s) : Sound (offerFeed u s) := by
  have merge := hs.bounded.merge
  unfold offerFeed
  split
  · refine evalShed_sound (hs.of_parts ⟨?_, merge.localQ, merge.asm⟩ rfl hs.bounded.results
      hs.bounded.port rfl rfl rfl)
    simpa
  · exact (latch_carried ..).sound hs

theorem takeInsertByte_bounded (byte : Byte) {m : InputMerge} (hm : m.Bounded) (room : m.localQ.length < 8) :
    (takeInsertByte byte m).Bounded := by
  obtain ⟨feed, localQ, asm⟩ := hm
  unfold takeInsertByte
  split
  · split
    · exact ⟨feed, localQ, by simp⟩
    · exact ⟨feed, localQ, asm⟩
  · split
    · exact ⟨feed, localQ, by simpa⟩
    · exact ⟨feed, by simpa, by simp⟩

theorem takeInsertByte_refs (byte : Byte) (m : InputMerge) : (takeInsertByte byte m).refs = m.refs := by
  unfold takeInsertByte
  repeat' split
  all_goals rfl

/-! ### The Classifier and the parsers -/

/-- R26: there is a place for the result of a unit taken from the local insert. -/
theorem results_lt_of_localHead {s : State} {q : StampedUnit} (h : localHead s = some q) :
    s.results.length < 8 := by
  unfold localHead localEligible at h
  split at h
  · rename_i eligible
    simp only [Bool.and_eq_true, decide_eq_true_eq] at eligible
    exact eligible.1.2.2
  · cases h

theorem pushResult_sound (r : Result) {s : State} (hs : Sound s) (room : s.results.length < 8) :
    Sound (pushResult r s) := by
  refine hs.of_parts hs.bounded.merge rfl ?_ hs.bounded.port rfl rfl rfl
  simpa

theorem onFeed_sound (row : FeedRow) {act : CarriageUnit → State → State}
    (hact : ∀ u s, Sound s → Sound (act u s)) {s : State} (hs : Sound s) : Sound (onFeed row act s) := by
  unfold onFeed
  split
  · split
    · exact hact _ _ (tookFeed_sound ((commitsDue_carried s).sound hs))
    · exact hs
  · exact hs

theorem onDirective_sound {α : Type} (row : FeedRow) (read : List Byte → Option α) {act : α → State → State}
    (hact : ∀ x s, Sound s → Sound (act x s)) {s : State} (hs : Sound s) :
    Sound (onDirective row read act s) := by
  refine onFeed_sound row (fun u s hs => ?_) hs
  split
  · exact hact _ _ hs
  · exact (latch_carried ..).sound hs

theorem onDirective_carried_sound {α : Type} (row : FeedRow) (read : List Byte → Option α)
    {act : α → State → State} (hact : ∀ x s, Carried s (act x s)) {s : State} (hs : Sound s) :
    Sound (onDirective row read act s) :=
  onDirective_sound row read (fun x s hs => (hact x s).sound hs) hs

theorem onLocal_sound (row : LocalRow) {act : CarriageUnit → State → State}
    (hact : ∀ u s, Sound s → s.results.length < 8 → Sound (act u s)) {s : State} (hs : Sound s) :
    Sound (onLocal row act s) := by
  unfold onLocal
  split
  · rename_i q head
    split
    · refine hact _ _ (tookLocal_sound ((commitsDue_carried s).sound hs)) ?_
      rw [tookLocal_results, (commitsDue_carried s).results]
      exact results_lt_of_localHead head
    · exact hs
  · exact hs

/-- R25, R26: a command whose owner keeps the part sound and leaves the Result Queue to the parser. -/
theorem onCommand_sound {α : Type} (kind : CommandKind) (read : List Byte → Option α) {act : α → State → Reply}
    (hact : ∀ x s, Sound s → Sound (act x s).1) (hresults : ∀ x s, (act x s).1.results = s.results)
    {s : State} (hs : Sound s) : Sound (onCommand kind read act s) := by
  refine onLocal_sound _ (fun u s hs room => ?_) hs
  split
  · exact pushResult_sound _ (hact _ _ hs) ((hresults _ _).symm ▸ room)
  · exact pushResult_sound _ hs room

theorem onCommand_carried_sound {α : Type} (kind : CommandKind) (read : List Byte → Option α)
    {act : α → State → Reply} (hact : ∀ x s, Carried s (act x s).1) {s : State} (hs : Sound s) :
    Sound (onCommand kind read act s) :=
  onCommand_sound kind read (fun x s hs => (hact x s).sound hs) (fun x s => (hact x s).results) hs

/-! ### Selections -/

theorem dropReferences_sound (given : List Nat) {s : State} (hs : Bounded s)
    (distinct : (s.merge.refs.map (·.label)).Nodup) : Sound (dropReferences given s) :=
  ⟨⟨⟨hs.merge.feed, hs.merge.localQ, hs.merge.asm⟩, hs.results, hs.slots, hs.outA, hs.outB, hs.port⟩,
    dropReferences_references given distinct⟩

theorem Output.Bounded.given (label : Nat) (last : Verdict) {out : Output} (h : out.Bounded) :
    (out.given label last).Bounded :=
  ⟨by simp [Output.given], h.transfer⟩

theorem withOutput_bounded (o : OutputId) {out : Output} {s : State} (hs : Bounded s) (h : out.Bounded) :
    Bounded (withOutput o out s) := by
  obtain ⟨merge, results, slots, outA, outB, port⟩ := hs
  cases o with
  | a => exact ⟨merge, results, slots, h, outB, port⟩
  | b => exact ⟨merge, results, slots, outA, h, port⟩

theorem output_bounded {s : State} (hs : Bounded s) (o : OutputId) : (output s o).Bounded := by
  cases o with
  | a => exact hs.outA
  | b => exact hs.outB

theorem selectLabel_sound (x : OutputId × Nat) {s : State} (hs : Sound s) : Sound (selectLabel x s).1 := by
  have given := withOutput_bounded x.1 hs.bounded
    ((output_bounded hs.bounded x.1).given x.2 (verdictOfGiven s x.2))
  unfold selectLabel
  split
  · exact hs
  · split
    · exact hs
    · exact dropReferences_sound _ given hs.references.1

theorem selectLabel_results (x : OutputId × Nat) (s : State) : (selectLabel x s).1.results = s.results := by
  unfold selectLabel
  split
  · rfl
  · split <;> rfl

theorem beginEmergency_sound (label : Nat) {s : State} (hs : Sound s) : Sound (beginEmergency label s) := by
  have ⟨merge, results, slots, outA, outB, port⟩ := hs.bounded
  have shown {out : Output} (h : out.Bounded) : (out.overridden label s.emergency.isNone).Bounded :=
    ⟨(h.given label .none).queue, h.transfer⟩
  unfold beginEmergency
  split
  · exact (latch_carried ..).sound hs
  · split
    · exact hs
    · exact dropReferences_sound _ ⟨merge, results, slots, shown outA, shown outB, port⟩ hs.references.1

theorem endEmergency_sound {s : State} (hs : Sound s) : Sound (endEmergency s) := by
  have ⟨merge, results, slots, outA, outB, port⟩ := hs.bounded
  have restored {out : Output} (last : Verdict) (h : out.Bounded) : (out.restored last).Bounded :=
    ⟨(h.given out.saved last).queue, h.transfer⟩
  unfold endEmergency
  split
  · exact hs
  · exact dropReferences_sound _ ⟨merge, results, slots, restored _ outA, restored _ outB, port⟩
      hs.references.1

/-! ### The media path -/

theorem checkSequence_sound {u : CarriageUnit} {s : State} (hs : Sound s)
    (hu : isSelected s u.label.toNat = true) : Sound (checkSequence u s) := by
  have ⟨⟨feed, localQ, asm⟩, results, slots, ⟨queueA, transferA⟩, ⟨queueB, transferB⟩, port⟩ := hs.bounded
  exact ⟨⟨⟨feed, localQ, asm⟩, results, slots, ⟨queueA, transferA⟩, ⟨queueB, transferB⟩, port⟩,
    checkSequence_references hs.references hu⟩

theorem Output.gated_transfer (out : Output) (u : CarriageUnit) (stamp : BitVec 24) (payload : List Byte)
    (v : Verdict) : (out.gated u stamp payload v).transfer = out.transfer := by
  unfold Output.gated
  split <;> rfl

theorem Output.gated_selected (out : Output) (u : CarriageUnit) (stamp : BitVec 24) (payload : List Byte)
    (v : Verdict) : (out.gated u stamp payload v).selected = out.selected := by
  unfold Output.gated
  split <;> rfl

theorem gatedOutput_bounded (s : State) (u : CarriageUnit) (stamp : BitVec 24) (outcome : Outcome)
    (payload : List Byte) {out : Output} (h : out.Bounded) :
    (gatedOutput s u stamp outcome payload out).Bounded := by
  unfold gatedOutput
  split
  · exact ⟨gated_length h.queue .., (out.gated_transfer ..) ▸ h.transfer⟩
  · exact h

theorem gatedOutput_selected (s : State) (u : CarriageUnit) (stamp : BitVec 24) (outcome : Outcome)
    (payload : List Byte) (out : Output) :
    (gatedOutput s u stamp outcome payload out).selected = out.selected := by
  unfold gatedOutput
  split
  · exact out.gated_selected ..
  · rfl

theorem afterUnit_slots_length (keys : KeyTable) (u : CarriageUnit) :
    (keys.afterUnit u).slots.length = keys.slots.length := by
  unfold KeyTable.afterUnit
  dsimp only
  split
  · exact markUsed_length ..
  · rfl

theorem presentUnit_sound (u : CarriageUnit) (stamp : BitVec 24) {s : State} (hs : Sound s) :
    Sound (presentUnit u stamp s) := by
  have ⟨merge, results, slots, outA, outB, port⟩ := hs.bounded
  exact ⟨⟨merge, results, (afterUnit_slots_length ..).trans slots, gatedOutput_bounded _ _ _ _ _ outA,
      gatedOutput_bounded _ _ _ _ _ outB, port⟩,
    hs.references.of_sublist (.refl _) (gatedOutput_selected ..) (gatedOutput_selected ..)⟩

theorem classifyMedia_sound (u : CarriageUnit) (stamp : BitVec 24) {s : State} (hs : Sound s) :
    Sound (classifyMedia u stamp s) := by
  unfold classifyMedia
  dsimp only
  by_cases selected : isSelected s u.label.toNat = true
  · have handedOn := presentUnit_sound u stamp (checkSequence_sound hs selected)
    repeat' split
    all_goals first
      | exact hs
      | exact handedOn
  · simpa [selected] using hs

/-! ### The ports out -/

theorem returnUnit_bytes_length (label : BitVec 12) (sequence : BitVec 4) (payload : List Byte) :
    (returnUnit label sequence payload).bytes.length = 128 := by
  simp [returnUnit]

theorem sampleReturn_sound (ready : Bool) {s : State} (hs : Sound s) : Sound (sampleReturn ready s) :=
  hs.of_parts hs.bounded.merge rfl hs.bounded.results hs.bounded.port rfl rfl rfl

/-- R32: a unit is begun on the return port. -/
theorem ReturnPort.Bounded.begun {p : ReturnPort} {u : ReturnUnit} (h : p.inProgress = some u)
    (bytes : u.bytes.length = 128) (sent : u.sent = 0) : p.Bounded := by
  intro v hv
  obtain rfl : u = v := Option.some.inj (h.symm.trans hv)
  exact ⟨bytes, by omega⟩

theorem ReturnPort.Bounded.free {p : ReturnPort} (h : p.inProgress = none) : p.Bounded := by
  intro v hv
  cases h.symm.trans hv

theorem beginResult_sound {s : State} (hs : Sound s) : Sound (beginResult s) := by
  unfold beginResult
  split
  · split
    · exact hs.of_parts hs.bounded.merge rfl hs.bounded.results
        (.begun rfl (returnUnit_bytes_length ..) rfl) rfl rfl rfl
    · exact hs
  · exact hs

theorem endResult_sound {s : State} (hs : Sound s) : Sound (endResult s) := by
  unfold endResult
  split
  · split
    · exact hs.of_parts hs.bounded.merge rfl ((List.tail_sublist _).length_le.trans hs.bounded.results)
        (.free rfl) rfl rfl rfl
    · exact hs
  · exact hs
  · exact hs

theorem beginBilling_sound {s : State} (hs : Sound s) : Sound (beginBilling s) := by
  unfold beginBilling
  split
  · split
    · exact hs.of_parts hs.bounded.merge rfl hs.bounded.results
        (.begun rfl (returnUnit_bytes_length ..) rfl) rfl rfl rfl
    · exact hs
  · exact hs

theorem endBilling_sound {s : State} (hs : Sound s) : Sound (endBilling s) := by
  unfold endBilling
  split
  · split
    · exact (takeNotice_carried ..).sound
        (hs.of_parts hs.bounded.merge rfl hs.bounded.results (.free rfl) rfl rfl rfl)
    · exact hs
  · exact hs
  · exact hs

/-- An output replaced by one of the same selection. -/
theorem withOutput_sound (o : OutputId) {out : Output} {s : State} (hs : Sound s) (h : out.Bounded)
    (selected : out.selected = (output s o).selected) : Sound (withOutput o out s) := by
  refine ⟨withOutput_bounded o hs.bounded h, hs.references.of_sublist (.refl _) ?_ ?_⟩
  all_goals cases o <;> first | rfl | exact selected

theorem Output.Bounded.beginUnit (isLive withTrailer ready : Bool) {out : Output} (h : out.Bounded) :
    (out.beginUnit isLive withTrailer ready).Bounded := by
  obtain ⟨queue, transfer⟩ := h
  unfold Output.beginUnit
  dsimp only
  split
  · exact ⟨queue, transfer⟩
  · rename_i q rest waiting
    split
    · refine ⟨?_, fun x hx => ?_⟩
      · rw [waiting, List.length_cons] at queue
        show rest.length ≤ 32
        omega
      · cases hx
        simp [sentBytes]
    · exact ⟨queue, transfer⟩

theorem Output.beginUnit_selected (isLive withTrailer ready : Bool) (out : Output) :
    (out.beginUnit isLive withTrailer ready).selected = out.selected := by
  unfold Output.beginUnit
  dsimp only
  split
  · rfl
  · split <;> rfl

theorem Output.Bounded.endUnit (isLive ready : Bool) {out : Output} (h : out.Bounded) :
    (out.endUnit isLive ready).Bounded := by
  refine ⟨h.queue, fun x hx => ?_⟩
  unfold Output.endUnit at hx
  split at hx
  · cases hx
  · exact h.transfer x hx

theorem SentOnward.stays_before_end {ready : Bool} {x y : Sending} (h : SentOnward ready x y)
    (hx : x.sent < x.bytes.length) : y.sent < y.bytes.length := by
  obtain ⟨bytes, -, -, before⟩ := h
  exact bytes ▸ before hx

theorem Output.Bounded.advance (n : Nat) {out : Output} (h : out.Bounded) : (out.advance n).Bounded := by
  rcases out.advance_cases n with ⟨_, e⟩ | ⟨x, y, sending, onward, e⟩ <;> rw [e]
  · exact h
  · refine ⟨h.queue, fun z hz => ?_⟩
    cases hz
    exact onward.stays_before_end (h.transfer x sending)

theorem ReturnPort.Bounded.advance (n : Nat) {p : ReturnPort} (h : p.Bounded) : (p.advance n).Bounded := by
  rcases p.advance_cases n with ⟨_, e⟩ | ⟨u, v, sending, _, onward, e⟩ <;> rw [e]
  · exact h
  · obtain ⟨whole, sent⟩ := h u sending
    refine fun w hw => ?_
    cases hw
    have whole' : v.bytes.length = 128 := onward.1 ▸ whole
    exact ⟨whole', whole' ▸ onward.stays_before_end (whole.symm ▸ sent)⟩

theorem tick_sound {s : State} (hs : Sound s) : Sound (tick s) := by
  obtain ⟨⟨⟨feed, localQ, asm⟩, results, slots, outA, outB, port⟩, references⟩ := hs
  unfold tick
  split
  · exact ⟨⟨⟨feed, localQ, asm⟩, results, slots, outA.advance _, outB.advance _,
      port.advance _⟩, references.of_sublist (.refl _) rfl rfl⟩
  · exact ⟨⟨⟨feed, localQ, asm⟩, results, slots, outA, outB, port⟩, references⟩

/-! ### Starts -/

/-- R19, R34, R87, R174: a start empties every buffer and queue. -/
theorem makeStart_sound (s : State) : Sound (makeStart s) := by
  refine ⟨⟨⟨?_, ?_, ?_⟩, ?_, ?_, ⟨?_, ?_⟩, ⟨?_, ?_⟩, ?_⟩, ?_, ?_⟩
  all_goals simp [makeStart, InputMerge.atStart, KeyTable.atStart, Output.atStart, ReturnPort.atStart,
    ReturnPort.Bounded]

theorem execInstallationReadEnd_sound (memory : List Byte) {s t : State} (hs : Sound s)
    (h : execInstallationReadEnd memory s = .next t) : Sound t := by
  cases h
  dsimp only
  split
  · refine (startUpCompletion_carried _).sound (evalShed_sound (Carried.sound ?_ hs))
    exact .of_eq rfl rfl rfl rfl rfl rfl
  · exact hs

/-! ### The table checks -/

theorem execCheckCompletion_carried (t : Table) {s u : State} (h : execCheckCompletion t s = .next u) :
    Carried s u := by
  have decided (later : Bool) (m : TableMachine) :
      Carried s (decideCommit later t (usedChoice (withMachine t m s))) :=
    ((withMachine_carried ..).trans (usedChoice_carried _)).trans (decideCommit_carried ..)
  cases h
  dsimp only
  repeat' split
  all_goals first
    | exact .refl s
    | exact decided ..
    | exact withMachine_carried ..
    | exact (withMachine_carried ..).trans (latch_carried ..)

/-! ### Every command, every step -/

theorem payMeter_carried (s : State) : Carried s (payMeter s) :=
  (paid_carried .meter s).trans (meterSecond_carried _)

/-- Every command leads from a sound state to a sound one. -/
theorem exec_sound (c : Instr) {s t : State} (hs : Sound s) (h : exec c s = .next t) : Sound t := by
  cases c with
  | powerUp =>
    cases h
    dsimp only
    split
    · exact hs
    · exact makeStart_sound _
  | resetHeldLow => cases h; exact hs.of_eq rfl rfl rfl rfl rfl rfl
  | resetRelease =>
    cases h
    dsimp only
    split
    · exact makeStart_sound _
    · exact hs.of_eq rfl rfl rfl rfl rfl rfl
  | standbySupplyLoss =>
    cases h
    dsimp only
    split <;> exact hs.of_eq rfl rfl rfl rfl rfl rfl
  | mainSupplyLoss =>
    cases h
    dsimp only
    split <;> exact hs.of_eq rfl rfl rfl rfl rfl rfl
  | coldStartWritesEnd =>
    cases h
    split
    · exact hs.of_eq rfl rfl rfl rfl rfl rfl
    · exact hs
  | installationReadEnd memory => exact execInstallationReadEnd_sound memory hs h
  | feedUnitArrival bytes =>
    have unitless (i : FeedInterface) : Sound { s with merge := { s.merge with feedIf := i } } :=
      have merge := hs.bounded.merge
      hs.of_parts ⟨merge.feed, merge.localQ, merge.asm⟩ rfl hs.bounded.results hs.bounded.port rfl rfl rfl
    cases h
    split
    · split
      · exact offerFeed_sound _ (unitless _)
      · exact unitless _
    · exact hs
  | feedInterfaceDiscard why =>
    cases h
    have merge := hs.bounded.merge
    split
    · exact hs.of_parts ⟨merge.feed, merge.localQ, merge.asm⟩ rfl hs.bounded.results hs.bounded.port rfl rfl rfl
    · exact hs
  | localInsertByte byte =>
    cases h
    split
    · rename_i ready
      simp only [insertReady, Bool.and_eq_true, decide_eq_true_eq] at ready
      exact hs.of_parts (takeInsertByte_bounded byte hs.bounded.merge ready.2) (takeInsertByte_refs ..)
        hs.bounded.results hs.bounded.port rfl rfl rfl
    · exact hs
  | mediaUnit =>
    cases h
    split
    · split
      · exact (commitsDue_carried _).sound (classifyMedia_sound _ _ (tookFeed_sound hs))
      · exact hs
    · exact hs
  | discardedFeedUnit => cases h; exact onFeed_sound _ (fun _ _ hs => hs) hs
  | directiveIgnored => cases h; exact onFeed_sound _ (fun _ _ hs => hs) hs
  | timeMark =>
    cases h
    refine onFeed_sound _ (fun u s hs => ?_) hs
    split
    · exact (adoptTime_carried ..).sound hs
    · exact (latch_carried ..).sound hs
  | keyUnit =>
    cases h
    exact onFeed_sound _ (fun u s hs => (Carried.foldl _ takeEntry_carried _ s).sound hs) hs
  | tableOpen => cases h; exact onDirective_carried_sound _ _ (fun _ _ => withMachine_carried ..) hs
  | tableRows => cases h; exact onDirective_carried_sound _ _ (fun _ _ => withMachine_carried ..) hs
  | tableClose => cases h; exact onDirective_carried_sound _ _ (fun _ _ => withMachine_carried ..) hs
  | checkCompletion table => exact (execCheckCompletion_carried table h).sound hs
  | tableActivation table =>
    cases h
    split
    · exact ((usedChoice_carried s).trans (decideCommit_carried ..)).sound hs
    · exact hs
  | tableCommit table =>
    cases h
    split
    · exact (commitIfDue_carried ..).sound hs
    · exact hs
  | roomRecord =>
    cases h
    refine onDirective_carried_sound _ _ (fun x s => ?_) hs
    split
    · exact takeActive_carried ..
    · exact .of_eq rfl rfl rfl rfl rfl rfl
  | tenancyChange =>
    cases h
    refine onDirective_carried_sound _ _ (fun x s => ?_) hs
    split
    · exact .refl s
    · exact beginClosing_carried s
  | completionTimeout =>
    cases h
    split
    · exact ((paid_carried ..).trans (completeTenancy_carried _)).sound hs
    · exact hs
  | lockReset =>
    cases h
    exact onDirective_carried_sound _ _ (fun _ s => (closeLock_carried s).trans (setFailures_carried ..)) hs
  | purchaseVoid => cases h; exact onDirective_carried_sound _ _ voidFilm_carried hs
  | billingReceipt => cases h; exact onDirective_carried_sound _ _ receive_carried hs
  | billingPoll =>
    cases h
    exact onDirective_sound (act := poll) _ _ (fun _ _ hs => hs.of_eq rfl rfl rfl rfl rfl rfl) hs
  | emergencyOn => cases h; exact onDirective_sound _ _ (fun label _ hs => beginEmergency_sound label hs) hs
  | emergencyOff => cases h; exact onDirective_sound _ _ (fun _ _ hs => endEmergency_sound hs) hs
  | refusedUnit => cases h; exact onLocal_sound _ (fun _ _ hs room => pushResult_sound _ hs room) hs
  | unknownCommand => cases h; exact onLocal_sound _ (fun _ _ hs room => pushResult_sound _ hs room) hs
  | select =>
    cases h
    exact onCommand_sound _ _ (fun x _ hs => selectLabel_sound x hs) selectLabel_results hs
  | purchase => cases h; exact onCommand_carried_sound _ _ buy_carried hs
  | pinEntry => cases h; exact onCommand_carried_sound _ _ enterPin_carried hs
  | relock => cases h; exact onCommand_carried_sound _ _ (fun _ s => relockNow_carried s) hs
  | query => cases h; exact onCommand_carried_sound _ _ (fun _ s => .refl s) hs
  | alertSetup =>
    cases h
    exact onCommand_carried_sound _ _ (fun _ _ => .of_eq rfl rfl rfl rfl rfl rfl) hs
  | alertClear =>
    cases h
    exact onCommand_carried_sound _ _ (fun _ _ => .of_eq rfl rfl rfl rfl rfl rfl) hs
  | secondEvent =>
    cases h
    split
    · exact (secondEvent_carried s).sound hs
    · exact hs
  | sessionExpiry =>
    cases h
    split
    · exact ((paid_carried .lock s).trans (lockEvent_carried _)).sound hs
    · exact hs
  | lockoutExpiry =>
    cases h
    split
    · exact ((paid_carried .lock s).trans (lockEvent_carried _)).sound hs
    · exact hs
  | graceUsedUp =>
    cases h
    split
    · exact (payMeter_carried s).sound hs
    · exact hs
  | graceLapse =>
    cases h
    split
    · exact (payMeter_carried s).sound hs
    · exact hs
  | stepRemainingEnd =>
    cases h
    split
    · exact (payMeter_carried s).sound hs
    · exact hs
  | resultUnitBegin ready => cases h; exact beginResult_sound (sampleReturn_sound ready hs)
  | resultUnitEnd ready => cases h; exact endResult_sound (sampleReturn_sound ready hs)
  | billingUnitBegin ready => cases h; exact beginBilling_sound (sampleReturn_sound ready hs)
  | billingUnitEnd ready => cases h; exact endBilling_sound (sampleReturn_sound ready hs)
  | outputUnitBegin o ready =>
    cases h
    exact withOutput_sound o hs ((output_bounded hs.bounded o).beginUnit ..) (Output.beginUnit_selected ..)
  | outputUnitEnd o ready =>
    cases h
    exact withOutput_sound o hs ((output_bounded hs.bounded o).endUnit ..) rfl

theorem step_sound {s t : State} (hs : Sound s) (h : step s = .next t) : Sound t := by
  unfold step at h
  split at h
  · cases h
    exact tick_sound hs
  · refine exec_sound _ ?_ h
    exact hs.of_eq rfl rfl rfl rfl rfl rfl

end Sys2Proof.Machine

/-- Settles O53: soundness is kept by the clock and by every command. -/
theorem stepKeepsCapacitiesAndReferences : Obligations.StepKeepsCapacitiesAndReferences := by
  intro s t within references h
  exact (Sys2Proof.Machine.sound_iff t).mp
    (Sys2Proof.Machine.step_sound ((Sys2Proof.Machine.sound_iff s).mpr ⟨within, references⟩) h)
end

section
/-!
Every command completes, and neither reads nor writes the queue of waiting commands (O2).
-/
namespace Sys2Proof.Machine

/-- A command that completes and keeps to the queue it is given. -/
def KeepsToQueue (c : Instr) : Prop :=
  ∃ act : State → State, (∀ s, exec c s = .next (act s)) ∧ ∀ q s, act (s.onQueue q) = (act s).onQueue q

/-- What a command leaves in the queue is what it found there: the queue given back is the one it kept to. -/
theorem KeepsToQueue.spec {c : Instr} (h : KeepsToQueue c) (s : State) :
    ∃ t, exec c s = .next t ∧ t.pending = s.pending
      ∧ ∀ queue : List Instr, exec c { s with pending := queue } = .next { t with pending := queue } := by
  obtain ⟨act, hexec, hqueue⟩ := h
  have own : act s = (act s).onQueue s.pending := hqueue s.pending s
  exact ⟨act s, hexec s, own ▸ rfl, fun queue => (hexec _).trans (congrArg _ (hqueue queue s))⟩

/-! ### The end of the installation read -/

/-- R90: the values of a read put in force and STARTING ended, before the shed state is evaluated and the
start-up completion is made. -/
def readEnded (memory : List Byte) (s : State) : State :=
  { s with
    power := { s.power with phase := .running }
    install := installationOf (memoryBytes memory)
    readSig := signature ((memoryBytes memory).take 64)
    alerts := alertsAfterRead (memoryBytes memory) s.alerts }

theorem exec_installationReadEnd (memory : List Byte) (s : State) :
    exec (.installationReadEnd memory) s = .next
      (if live s && s.power.phase == .reading then startUpCompletion (evalShed (readEnded memory s)) else s) :=
  rfl

/-! ### The owners' replies -/

theorem selectLabel_onQueue (q : List Instr) (x : OutputId × Nat) (s : State) :
    selectLabel x (s.onQueue q) = (selectLabel x s).onQueue q := by
  unfold selectLabel
  rw [onQueue_emergency, onQueue_selectOn]
  split
  · rfl
  · split <;> rfl

theorem enterPin_onQueue (q : List Instr) (digits : Pin) (s : State) :
    enterPin digits (s.onQueue q) = (enterPin digits s).onQueue q := by
  unfold enterPin
  rw [onQueue_ret, onQueue_guest, onQueue_lock, onQueue_wrongPin]
  repeat' split
  all_goals rfl

theorem buyFilm_onQueue (q : List Instr) (label : Nat) (s : State) :
    buyFilm label (s.onQueue q) = (buyFilm label s).onQueue q := by
  unfold buyFilm
  rw [onQueue_serviceRow]
  split
  · rfl
  · rw [onQueue_filmRefusal, onQueue_acceptPurchase]
    split <;> rfl

theorem buy_onQueue (q : List Instr) (label : Nat) (s : State) :
    buy label (s.onQueue q) = (buy label s).onQueue q := by
  unfold buy
  rw [onQueue_ret, onQueue_emergency, onQueue_time, onQueue_evalBillingDay, buyFilm_onQueue]
  repeat' split
  all_goals rfl

/-! ### The commands -/

theorem exec_keepsToQueue (c : Instr) : KeepsToQueue c := by
  cases c with
  | powerUp =>
    refine ⟨_, fun _ => rfl, fun q s => ?_⟩
    dsimp only
    rw [onQueue_power]
    split
    · rfl
    · rfl
  | resetHeldLow =>
    refine ⟨_, fun _ => rfl, fun q s => ?_⟩
    rfl
  | resetRelease =>
    refine ⟨_, fun _ => rfl, fun q s => ?_⟩
    dsimp only
    rw [onQueue_power]
    split
    · rfl
    · rfl
  | standbySupplyLoss =>
    refine ⟨_, fun _ => rfl, fun q s => ?_⟩
    dsimp only
    rw [onQueue_power]
    split
    · rfl
    · rfl
  | mainSupplyLoss =>
    refine ⟨_, fun _ => rfl, fun q s => ?_⟩
    dsimp only
    rw [onQueue_power]
    split
    · rfl
    · rfl
  | coldStartWritesEnd =>
    refine ⟨_, fun _ => rfl, fun q s => ?_⟩
    dsimp only
    rw [onQueue_live, onQueue_power]
    split
    · rfl
    · rfl
  | installationReadEnd memory =>
    refine ⟨_, fun _ => rfl, fun q s => ?_⟩
    dsimp only
    rw [onQueue_live, onQueue_power]
    split
    · exact onQueue_startUpCompletion q (evalShed (readEnded memory s))
    · rfl
  | feedUnitArrival bytes =>
    refine ⟨_, fun _ => rfl, fun q s => ?_⟩
    dsimp only
    rw [onQueue_live]
    split
    · split
      · exact onQueue_offerFeed q { s with merge := { s.merge with feedIf := .awaiting } } _
      · rfl
    · rfl
  | feedInterfaceDiscard why =>
    refine ⟨_, fun _ => rfl, fun q s => ?_⟩
    dsimp only
    rw [onQueue_live]
    split
    · rfl
    · rfl
  | localInsertByte byte =>
    refine ⟨_, fun _ => rfl, fun q s => ?_⟩
    rw [onQueue_insertReady]
    split
    · rfl
    · rfl
  | mediaUnit =>
    refine ⟨_, fun _ => rfl, fun q s => ?_⟩
    rw [onQueue_feedHead, onQueue_install]
    split
    · split
      · simp
      · rfl
    · rfl
  | discardedFeedUnit =>
    refine ⟨_, fun _ => rfl, fun q s => ?_⟩
    refine onFeed_onQueue q _ _ (fun _ _ => ?_) s
    rfl
  | directiveIgnored =>
    refine ⟨_, fun _ => rfl, fun q s => ?_⟩
    refine onFeed_onQueue q _ _ (fun _ _ => ?_) s
    rfl
  | timeMark =>
    refine ⟨_, fun _ => rfl, fun q s => ?_⟩
    refine onFeed_onQueue q _ _ (fun u s => ?_) s
    split
    · exact onQueue_adoptTime ..
    · rfl
  | keyUnit =>
    refine ⟨_, fun _ => rfl, fun q s => ?_⟩
    exact onFeed_onQueue q _ _ (fun _ s => foldl_onQueue q takeEntry (onQueue_takeEntry q) _ s) s
  | tableOpen =>
    refine ⟨_, fun _ => rfl, fun q s => ?_⟩
    refine onDirective_onQueue q _ _ _ (fun _ _ => ?_) s
    rfl
  | tableRows =>
    refine ⟨_, fun _ => rfl, fun q s => ?_⟩
    refine onDirective_onQueue q _ _ _ (fun _ _ => ?_) s
    rfl
  | tableClose =>
    refine ⟨_, fun _ => rfl, fun q s => ?_⟩
    refine onDirective_onQueue q _ _ _ (fun _ _ => ?_) s
    rfl
  | checkCompletion table =>
    refine ⟨_, fun _ => rfl, fun q s => ?_⟩
    dsimp only
    rw [onQueue_machine, onQueue_live, onQueue_nextChoice, onQueue_time]
    repeat' split
    all_goals first
      | rfl
      | exact onQueue_decideCommit q (usedChoice (withMachine _ _ s)) _ _
  | tableActivation table =>
    refine ⟨_, fun _ => rfl, fun q s => ?_⟩
    rw [onQueue_live, onQueue_activates, onQueue_nextChoice]
    split
    · exact onQueue_decideCommit q (usedChoice s) _ _
    · rfl
  | tableCommit table =>
    refine ⟨_, fun _ => rfl, fun q s => ?_⟩
    rw [onQueue_live]
    split
    · exact onQueue_commitIfDue q s table
    · rfl
  | roomRecord =>
    refine ⟨_, fun _ => rfl, fun q s => ?_⟩
    refine onDirective_onQueue q _ _ _ (fun x s => ?_) s
    split
    · exact onQueue_takeActive ..
    · rfl
  | tenancyChange =>
    refine ⟨_, fun _ => rfl, fun q s => ?_⟩
    refine onDirective_onQueue q _ _ _ (fun _ s => ?_) s
    rw [onQueue_ret]
    split
    · rfl
    · exact onQueue_beginClosing q s
  | completionTimeout =>
    refine ⟨_, fun _ => rfl, fun q s => ?_⟩
    rw [onQueue_timeoutReached]
    split
    · rfl
    · rfl
  | lockReset =>
    refine ⟨_, fun _ => rfl, fun q s => ?_⟩
    exact onDirective_onQueue q _ _ _ (fun _ s => by rw [onQueue_closeLock, onQueue_setFailures]) s
  | purchaseVoid =>
    refine ⟨_, fun _ => rfl, fun q s => ?_⟩
    exact onDirective_onQueue q _ _ _ (fun n s => onQueue_voidFilm q s n) s
  | billingReceipt =>
    refine ⟨_, fun _ => rfl, fun q s => ?_⟩
    exact onDirective_onQueue q _ _ _ (fun n s => onQueue_receive q s n) s
  | billingPoll =>
    refine ⟨_, fun _ => rfl, fun q s => ?_⟩
    exact onDirective_onQueue q _ _ _ (fun n s => onQueue_poll q s n) s
  | emergencyOn =>
    refine ⟨_, fun _ => rfl, fun q s => ?_⟩
    exact onDirective_onQueue q _ _ _ (fun n s => onQueue_beginEmergency q s n) s
  | emergencyOff =>
    refine ⟨_, fun _ => rfl, fun q s => ?_⟩
    exact onDirective_onQueue q _ _ _ (fun _ s => onQueue_endEmergency q s) s
  | refusedUnit =>
    refine ⟨_, fun _ => rfl, fun q s => ?_⟩
    refine onLocal_onQueue q _ _ (fun _ _ => ?_) s
    rfl
  | unknownCommand =>
    refine ⟨_, fun _ => rfl, fun q s => ?_⟩
    refine onLocal_onQueue q _ _ (fun _ _ => ?_) s
    rfl
  | select =>
    refine ⟨_, fun _ => rfl, fun q s => ?_⟩
    exact onCommand_onQueue q _ _ _ (selectLabel_onQueue q) s
  | purchase =>
    refine ⟨_, fun _ => rfl, fun q s => ?_⟩
    exact onCommand_onQueue q _ _ _ (buy_onQueue q) s
  | pinEntry =>
    refine ⟨_, fun _ => rfl, fun q s => ?_⟩
    exact onCommand_onQueue q _ _ _ (enterPin_onQueue q) s
  | relock =>
    refine ⟨_, fun _ => rfl, fun q s => ?_⟩
    exact onCommand_onQueue q _ _ _ (fun _ s => by rw [onQueue_relockNow]; rfl) s
  | query =>
    refine ⟨_, fun _ => rfl, fun q s => ?_⟩
    refine onCommand_onQueue q _ _ _ (fun _ _ => ?_) s
    rfl
  | alertSetup =>
    refine ⟨_, fun _ => rfl, fun q s => ?_⟩
    refine onCommand_onQueue q _ _ _ (fun _ _ => ?_) s
    rfl
  | alertClear =>
    refine ⟨_, fun _ => rfl, fun q s => ?_⟩
    refine onCommand_onQueue q _ _ _ (fun _ _ => ?_) s
    rfl
  | secondEvent =>
    refine ⟨_, fun _ => rfl, fun q s => ?_⟩
    rw [onQueue_live]
    split
    · exact onQueue_secondEvent q s
    · rfl
  | sessionExpiry =>
    refine ⟨_, fun _ => rfl, fun q s => ?_⟩
    rw [onQueue_sessionExpires]
    split
    · rw [onQueue_paid, onQueue_lockEvent]
    · rfl
  | lockoutExpiry =>
    refine ⟨_, fun _ => rfl, fun q s => ?_⟩
    rw [onQueue_lockoutExpires]
    split
    · rw [onQueue_paid, onQueue_lockEvent]
    · rfl
  | graceUsedUp =>
    refine ⟨_, fun _ => rfl, fun q s => ?_⟩
    rw [onQueue_meterOwes_graceEnds]
    split
    · exact onQueue_payMeter q s
    · rfl
  | graceLapse =>
    refine ⟨_, fun _ => rfl, fun q s => ?_⟩
    rw [onQueue_meterOwes_graceLapses]
    split
    · exact onQueue_payMeter q s
    · rfl
  | stepRemainingEnd =>
    refine ⟨_, fun _ => rfl, fun q s => ?_⟩
    rw [onQueue_meterOwes_repetitionEnds]
    split
    · exact onQueue_payMeter q s
    · rfl
  | resultUnitBegin ready =>
    refine ⟨_, fun _ => rfl, fun q s => ?_⟩
    exact onQueue_beginResult q (sampleReturn ready s)
  | resultUnitEnd ready =>
    refine ⟨_, fun _ => rfl, fun q s => ?_⟩
    exact onQueue_endResult q (sampleReturn ready s)
  | billingUnitBegin ready =>
    refine ⟨_, fun _ => rfl, fun q s => ?_⟩
    exact onQueue_beginBilling q (sampleReturn ready s)
  | billingUnitEnd ready =>
    refine ⟨_, fun _ => rfl, fun q s => ?_⟩
    exact onQueue_endBilling q (sampleReturn ready s)
  | outputUnitBegin output ready =>
    refine ⟨_, fun _ => rfl, fun q s => ?_⟩
    rfl
  | outputUnitEnd output ready =>
    refine ⟨_, fun _ => rfl, fun q s => ?_⟩
    rfl

end Sys2Proof.Machine

/-- Settles O2: each command is an operation that keeps to the queue it is given. -/
theorem commandsLeaveTheQueueAlone : Obligations.CommandsLeaveTheQueueAlone :=
  fun c s => (Sys2Proof.Machine.exec_keepsToQueue c).spec s
end

section
/-!
The layout of the carriage unit and of the fields of more than one byte (O52).
-/
namespace Sys2Proof.Machine

/-! ### The header fields (§11.2) -/

open BitVec in
/-- §11.2: two fields that meet at bit 4, the label's and those of header byte 3, written together. -/
theorem fields_written {m : Nat} (x : BitVec (m + 4)) : x.extractLsb' 4 m ++ x.extractLsb' 0 4 = x := by
  rw [extractLsb'_append_extractLsb'_eq_extractLsb' (show 4 = 0 + 4 from rfl)]
  exact extractLsb'_eq_self

open BitVec in
/-- §11.2: header byte 2 gives back its four fields. -/
theorem headerByte2_fields (high : BitVec 4) (phase : BitVec 2) (start spare : Bool) :
    let byte : Byte := high ++ phase ++ ofBool start ++ ofBool spare
    byte.extractLsb' 4 4 = high ∧ byte.extractLsb' 2 2 = phase ∧ byte.getLsbD 1 = start
      ∧ byte.getLsbD 0 = spare := by
  refine ⟨?_, ?_, ?_, ?_⟩
  · rw [extractLsb'_append_eq_of_le (by decide), extractLsb'_append_eq_of_le (by decide)]
    exact extractLsb'_append_eq_left
  · rw [extractLsb'_append_eq_of_le (by decide), extractLsb'_append_eq_of_le (by decide),
      extractLsb'_append_eq_of_add_le (by decide)]
    exact extractLsb'_eq_self
  · rw [getLsbD_append, if_neg (by decide), getLsbD_append, if_pos (by decide)]
    simp
  · rw [getLsbD_append, if_pos (by decide)]
    simp

open BitVec in
/-- §11.2: header byte 2 is written with the fields that it is read as. -/
theorem headerByte2_written (b : Byte) :
    b.extractLsb' 4 4 ++ b.extractLsb' 2 2 ++ ofBool (b.getLsbD 1) ++ ofBool (b.getLsbD 0) = b := by
  have bit (i : Nat) : ofBool (b.getLsbD i) = b.extractLsb' i 1 := by
    ext j hj
    obtain rfl : j = 0 := by omega
    simp
  rw [bit, bit, extractLsb'_append_extractLsb'_eq_extractLsb' (show 4 = 2 + 2 from rfl),
    extractLsb'_append_extractLsb'_eq_extractLsb' (show 2 = 1 + 1 from rfl),
    extractLsb'_append_extractLsb'_eq_extractLsb' (show 1 = 0 + 1 from rfl)]
  exact extractLsb'_eq_self

open BitVec in
/-- §11.2: the fields at the two ends of header byte 3, and of the label's two bytes. -/
theorem append_fields {m n : Nat} (high : BitVec m) (low : BitVec n) :
    (high ++ low).extractLsb' n m = high ∧ (high ++ low).extractLsb' 0 n = low := by
  refine ⟨extractLsb'_append_eq_left, ?_⟩
  rw [extractLsb'_append_eq_of_add_le (by omega)]
  exact extractLsb'_eq_self

/-! ### The unit (R1, §11.2) -/

theorem unitOfBytes_bytes (u : CarriageUnit) (h : u.payload.length = 124) : unitOfBytes u.bytes = u := by
  obtain ⟨label, phase, start, spare2, sequence, spare3, payload⟩ := u
  obtain ⟨low, code, startBit, spareBit⟩ := headerByte2_fields (label.extractLsb' 0 4) phase.code start spare2
  obtain ⟨seq, spare⟩ := append_fields sequence spare3
  have whole : payload.take 124 = payload := List.take_of_length_le (Nat.le_of_eq h)
  simp only [unitOfBytes, CarriageUnit.bytes, byteAt, List.cons_append, List.nil_append, List.getD_cons_succ,
    List.getD_cons_zero, List.drop_succ_cons, List.drop_zero, low, code, startBit, spareBit, seq, spare,
    fields_written label, keyPhaseOf_code, whole]

theorem bytes_unitOfBytes (bytes : List Byte) (h : bytes.length = 128) (sync : bytes.head? = some 0xB5) :
    (unitOfBytes bytes).bytes = bytes := by
  match bytes, h, sync with
  | b0 :: b1 :: b2 :: b3 :: payload, h, sync =>
    obtain rfl : b0 = 0xB5 := by simpa using sync
    have whole : payload.take 124 = payload := List.take_of_length_le (by simp at h; omega)
    obtain ⟨high, low⟩ := append_fields b1 (b2.extractLsb' 4 4)
    simp only [unitOfBytes, CarriageUnit.bytes, byteAt, List.cons_append, List.nil_append, List.getD_cons_succ,
      List.getD_cons_zero, List.drop_succ_cons, List.drop_zero, high, low, fields_written b3,
      headerByte2_written, code_keyPhaseOf, whole]

/-! ### Fields of more than one byte (R175) -/

/-- R175: the bytes before a field's last ones weigh more. -/
theorem beNat_foldl (bytes : List Byte) (n : Nat) :
    bytes.foldl (fun n b => n * 256 + b.toNat) n = n * 256 ^ bytes.length + beNat bytes := by
  unfold beNat
  induction bytes generalizing n with
  | nil => simp
  | cons b rest ih =>
    rw [List.foldl_cons, List.foldl_cons, ih, ih (0 * 256 + b.toNat), List.length_cons, pow_succ]
    ring

theorem beNat_cons (b : Byte) (bytes : List Byte) :
    beNat (b :: bytes) = b.toNat * 256 ^ bytes.length + beNat bytes := by
  have h := beNat_foldl bytes (0 * 256 + b.toNat)
  simpa [beNat] using h

/-- R175: a field of `n` bytes holds the number modulo 256 to the `n`. -/
theorem beNat_beBytes (n v : Nat) : beNat (beBytes n v) = v % 256 ^ n := by
  induction n with
  | zero => simp [beBytes, beNat, Nat.mod_one]
  | succ n ih =>
    rw [beBytes, beNat_cons, ih, beBytes_length, BitVec.toNat_ofNat, pow_succ 256 n, Nat.mod_mul]
    exact (Nat.add_comm _ _).trans (congrArg _ (Nat.mul_comm _ _))

end Sys2Proof.Machine

open Sys2Proof.Machine in
/-- Settles O52: the header fields are read where they are written, and a field's bytes by its length. -/
theorem unitLayoutRoundTrip : Obligations.UnitLayoutRoundTrip :=
  ⟨fun u h => ⟨unitOfBytes_bytes u h, by rw [unit_bytes_length, h]⟩, bytes_unitOfBytes,
    fun n v => ⟨beBytes_length n v, beNat_beBytes n v⟩, beNat_cons⟩
end

section
/-!
The step and the reset state (O1, O3).
-/
namespace Sys2Proof.Machine

/-! ### A microsecond of the clock -/

theorem step_cons {c : Instr} {rest : List Instr} {s : State} (h : s.pending = c :: rest) :
    step s = exec c { s with pending := rest } := by
  simp [step, h]

theorem step_nil {s : State} (h : s.pending = []) : step s = .next (tick s) := by
  simp [step, h]

/-- R32: what a microsecond leaves on the return port. -/
theorem ReturnPort.advance_spec (n : Nat) (p : ReturnPort) :
    ∃ x, p.advance n = { p with inProgress := x } ∧ (p.inProgress = none → x = none)
      ∧ ∀ u, p.inProgress = some u → ∃ v, x = some v ∧ v.kind = u.kind
        ∧ SentOnward p.ready u.toSending v.toSending := by
  rcases p.advance_cases n with ⟨idle, e⟩ | ⟨u, v, sending, kind, onward, e⟩
  · exact ⟨none, by rw [e, ← idle], fun _ => rfl, fun u hu => by cases idle.symm.trans hu⟩
  · refine ⟨some v, e, fun h => (by cases sending.symm.trans h), fun w hw => ?_⟩
    obtain rfl : u = w := Option.some.inj (sending.symm.trans hw)
    exact ⟨v, rfl, kind, onward⟩

/-- R166: what a microsecond leaves of an Output Stage. -/
theorem Output.advance_spec (n : Nat) (out : Output) :
    ∃ x, out.advance n = { out with transfer := x } ∧ (out.transfer = none → x = none)
      ∧ ∀ u, out.transfer = some u → ∃ v, x = some v ∧ SentOnward out.ready u v := by
  rcases out.advance_cases n with ⟨idle, e⟩ | ⟨u, v, sending, onward, e⟩
  · exact ⟨none, by rw [e, ← idle], fun _ => rfl, fun u hu => by cases idle.symm.trans hu⟩
  · refine ⟨some v, e, fun h => (by cases sending.symm.trans h), fun w hw => ?_⟩
    obtain rfl : u = w := Option.some.inj (sending.symm.trans hw)
    exact ⟨v, rfl, onward⟩

theorem tick_of_not_live {s : State} (h : live s = false) : tick s = s := by
  simp [tick, h]

theorem reset_sound : Sound State.reset := by
  refine ⟨⟨⟨?_, ?_, ?_⟩, ?_, ?_, ⟨?_, ?_⟩, ⟨?_, ?_⟩, ?_⟩, ?_, ?_⟩
  all_goals simp [State.reset, InputMerge.atStart, KeyTable.atStart, Output.atStart, ReturnPort.atStart,
    ReturnPort.Bounded]

/-- R70: a table of vacant images, whatever its table. -/
theorem atStart_tableStarted (t : Table) : TableStarted t (TableMachine.atStart t) := by
  cases t <;> exact ⟨rfl, rfl, rfl, rfl, rfl, rfl⟩

theorem atStart_outputStarted (ready : Bool) : OutputStarted (Output.atStart ready) :=
  ⟨rfl, rfl, rfl, rfl, rfl, rfl, rfl, rfl⟩

theorem reset_startValues : StartValues State.reset where
  install := rfl
  readSig := rfl
  merge := rfl
  time := rfl
  results := rfl
  resultSeq := rfl
  billingSeq := rfl
  inProgress := rfl
  alerts := rfl
  svc := atStart_tableStarted .service
  tar := atStart_tableStarted .tariff
  keys := rfl
  lock := rfl
  closing := rfl
  outA := atStart_outputStarted false
  outB := atStart_outputStarted false
  emergency := rfl

/-- R36, R48: TIME UNSET, the one condition that holds at reset, is latched there. -/
theorem reset_conditionsLatched : ConditionsLatched State.reset := by decide

/-- R79, R87: at reset every slot is EMPTY. -/
theorem reset_slotsEntitled : SlotsEntitled State.reset := by
  have empty : ∀ slot ∈ State.reset.keys.slots, slot = none := fun _ h => List.eq_of_mem_replicate h
  refine fun _ => ⟨fun slot h k hk => ?_, fun _ => empty⟩
  cases (empty slot h).symm.trans hk

end Sys2Proof.Machine

open Sys2Proof.Machine in
/-- Settles O1: a step is the front command, or a tick, and a tick is said port by port. -/
theorem stepRunsTheFrontCommand : Obligations.StepRunsTheFrontCommand := by
  refine ⟨fun c rest s h => step_cons h, fun s h hlive => ?_, fun s h hlive => ?_⟩
  · obtain ⟨p, hp, idleP, sendP⟩ :=
      s.port.advance_spec (Sys2Proof.Config.bytesLeaving .returnPort s.model.drawn)
    obtain ⟨a, ha, idleA, sendA⟩ :=
      s.outA.advance_spec (Sys2Proof.Config.bytesLeaving (.output .a) s.model.drawn)
    obtain ⟨b, hb, idleB, sendB⟩ :=
      s.outB.advance_spec (Sys2Proof.Config.bytesLeaving (.output .b) s.model.drawn)
    refine ⟨p, a, b, ?_, idleP, sendP, idleA, sendA, idleB, sendB⟩
    rw [step_nil h, tick, if_pos hlive, hp, ha, hb]
  · rw [step_nil h, tick_of_not_live hlive]

open Sys2Proof.Machine in
/-- Settles O3: the reset state field by field. -/
theorem resetHoldsTheStartValues : Obligations.ResetHoldsTheStartValues := by
  obtain ⟨within, references⟩ := (sound_iff _).mp reset_sound
  refine ⟨reset_startValues, rfl, rfl, rfl, rfl, rfl, within, references, ?reservation,
    reset_conditionsLatched, ?levels, ?prompt, ?queues, reset_slotsEntitled, ?lock, ?serials, ?purchases⟩
  case reservation => exact fun _ => by decide
  case levels => exact ⟨rfl, fun n h => (by cases List.eq_of_mem_replicate h; decide), by decide⟩
  case prompt => exact ⟨rfl, fun _ h => (List.not_mem_nil h).elim, rfl, rfl⟩
  case queues => exact fun _ => ⟨fun h => (by cases h), fun _ => ⟨rfl, rfl⟩⟩
  case lock => exact fun _ => ⟨fun _ => rfl, fun _ => rfl⟩
  case serials => exact fun _ => trivial
  case purchases => exact fun _ => by decide
end

section
/-!
The two inputs and the routing of the units of the building feed (O8 to O12).
-/
namespace Sys2Proof.Machine

/-! ### Bytes at offsets -/

theorem byteAt_take {n i : Nat} (h : i < n) (bytes : List Byte) : byteAt (bytes.take n) i = byteAt bytes i := by
  simp [byteAt, List.getD_eq_getElem?_getD, List.getElem?_take_of_lt h]

theorem byteAt_drop (n i : Nat) (bytes : List Byte) : byteAt (bytes.drop n) i = byteAt bytes (n + i) := by
  simp [byteAt, List.getD_eq_getElem?_getD]

/-- R3: the bytes after the 128th are no part of a unit. -/
theorem unitOfBytes_take (bytes : List Byte) : unitOfBytes (bytes.take 128) = unitOfBytes bytes := by
  have payload : ((bytes.take 128).drop 4).take 124 = (bytes.drop 4).take 124 := by
    rw [List.drop_take, List.take_take]
    rfl
  simp only [unitOfBytes, byteAt_take (show 1 < 128 by decide), byteAt_take (show 2 < 128 by decide),
    byteAt_take (show 3 < 128 by decide), payload]

/-! ### The building feed interface -/

theorem exec_feedUnitArrival_of_unit {bytes : List Byte} {s : State} (hlive : live s = true)
    (sync : bytes.head? = some 0xB5) (whole : 128 ≤ bytes.length) : exec (.feedUnitArrival bytes) s =
      .next (offerFeed (unitOfBytes bytes) { s with merge := { s.merge with feedIf := .awaiting } }) := by
  simp [exec, execFeedUnitArrival, hlive, isCompleteUnit, sync, whole]

theorem exec_feedUnitArrival_of_unitless {bytes : List Byte} {s : State} (hlive : live s = true)
    (h : isCompleteUnit bytes = false) : exec (.feedUnitArrival bytes) s =
      .next { s with merge := { s.merge with feedIf := feedInterfaceAfter bytes s.merge.feedIf } } := by
  simp [exec, execFeedUnitArrival, hlive, h]

/-- R3: bytes that begin otherwise than with the sync. -/
theorem exec_feedUnitArrival_of_badSync {first : Byte} {rest : List Byte} {s : State} (hlive : live s = true)
    (h : first ≠ 0xB5) : exec (.feedUnitArrival (first :: rest)) s =
      .next { s with merge := { s.merge with feedIf := .awaiting } } := by
  have bad : (some first == some (0xB5 : Byte)) = false :=
    beq_eq_false_iff_ne.mpr fun e => h (Option.some.inj e)
  rw [exec_feedUnitArrival_of_unitless hlive (by rw [isCompleteUnit, List.head?_cons, bad, Bool.false_and])]
  simp only [feedInterfaceAfter, feedInterfaceAt, if_neg h]

/-- R3: a unit of which fewer than 128 bytes have come. -/
theorem exec_feedUnitArrival_of_short {bytes : List Byte} {s : State} (hlive : live s = true)
    (sync : bytes.head? = some 0xB5) (short : bytes.length < 128) : exec (.feedUnitArrival bytes) s =
      .next { s with merge := { s.merge with feedIf := .receiving } } := by
  rw [exec_feedUnitArrival_of_unitless hlive (by simp [isCompleteUnit, short])]
  cases bytes with
  | nil => cases sync
  | cons first rest =>
    obtain rfl : first = 0xB5 := by simpa using sync
    rfl

theorem exec_feedInterfaceDiscard {why : Sys2Proof.FeedDiscard} {s : State} (hlive : live s = true) :
    exec (.feedInterfaceDiscard why) s =
      .next { s with merge := { s.merge with feedIf := feedInterfaceAt (startByteOf why) } } := by
  simp [exec, execFeedInterfaceDiscard, hlive]

/-! ### Shedding -/

@[simp] theorem latchIf_false (a : AlertUnit) (src : AlertSource) : a.latchIf false src = a := by
  simp [AlertUnit.latchIf]

@[simp] theorem latchIf_true (a : AlertUnit) (src : AlertSource) : a.latchIf true src = a.latch src := by
  simp [AlertUnit.latchIf, AlertUnit.latch]

/-- R7: an evaluation that finds the shed state as it was does nothing. -/
theorem evalShed_of_kept {s : State} (h : shedAfter s = s.merge.shed) : evalShed s = s := by
  have ends : shedEnds s = false := by
    rw [shedEnds, h]
    cases s.merge.shed <;> rfl
  have begins : (s.merge.shed == .normal && shedAfter s == .shedding) = false := by
    rw [h]
    cases s.merge.shed <;> rfl
  rw [evalShed, begins, ends, h]
  simp

/-- R7: shedding begins. -/
theorem evalShed_of_begin {s : State} (h : s.merge.shed = .normal) (full : s.install.shedThr ≤ s.merge.feed.length) :
    evalShed s =
      { s with merge := { s.merge with shed := .shedding }, alerts := s.alerts.latch .insetShed } := by
  have after : shedAfter s = .shedding := by simp [shedAfter, h, full]
  have ends : shedEnds s = false := by
    rw [shedEnds, h, after]
    rfl
  have begins : (s.merge.shed == .normal && shedAfter s == .shedding) = true := by
    rw [h, after]
    rfl
  rw [evalShed, begins, ends, after]
  simp

/-- R7, R9: shedding ends. -/
theorem evalShed_of_end {s : State} (h : s.merge.shed = .shedding)
    (room : s.merge.feed.length ≤ s.install.resumeThr) : evalShed s =
      { s with
        merge := { s.merge with
          shed := .normal
          refs := s.merge.refs.filter fun r =>
            !(decide (r.label = s.outB.selected) && decide (r.label ≠ s.outA.selected)) }
        outB := { s.outB with entryWait := true } } := by
  have after : shedAfter s = .normal := by simp [shedAfter, h, room]
  have test (r : SequenceRef) : (r.label == s.outB.selected && r.label != s.outA.selected)
      = (decide (r.label = s.outB.selected) && decide (r.label ≠ s.outA.selected)) := by
    simp [bne, beq_eq_decide]
  have ends : shedEnds s = true := by
    rw [shedEnds, h, after]
    rfl
  have begins : (s.merge.shed == .normal && shedAfter s == .shedding) = false := by
    rw [h, after]
    rfl
  rw [evalShed, begins, ends, after]
  simp [test]

/-! ### The local insert port -/

theorem running_iff (s : State) : running s = true ↔
    s.power.mainSupply = true ∧ s.power.resetLow = false ∧ s.power.phase = .running := by
  simp [running, live, and_assoc]

theorem insertReady_iff (s : State) : insertReady s = true ↔ s.power.mainSupply = true
    ∧ s.power.resetLow = false ∧ s.power.phase = .running ∧ s.merge.localQ.length < 8 := by
  simp [insertReady, running_iff, and_assoc]

theorem exec_localInsertByte (b : Byte) (s : State) : exec (.localInsertByte b) s =
    .next (if insertReady s then { s with merge := takeInsertByte b s.merge } else s) := rfl

theorem takeInsertByte_of_badSync {b : Byte} {m : InputMerge} (h : m.asm = []) (hb : b ≠ 0xB5) :
    takeInsertByte b m = m := by
  rw [takeInsertByte, if_pos h, if_neg hb]

theorem takeInsertByte_of_sync {b : Byte} {m : InputMerge} (h : m.asm = []) (hb : b = 0xB5) :
    takeInsertByte b m = { m with asm := [b] } := by
  simp [takeInsertByte, h, hb]

theorem takeInsertByte_of_room {b : Byte} {m : InputMerge} (h : m.asm ≠ []) (room : m.asm.length < 127) :
    takeInsertByte b m = { m with asm := m.asm ++ [b] } := by
  unfold takeInsertByte
  rw [if_neg h, if_pos (by omega)]

theorem takeInsertByte_of_last {b : Byte} {m : InputMerge} (last : 127 ≤ m.asm.length) :
    takeInsertByte b m =
      { m with
        asm := []
        localQ := m.localQ ++ [{ unit := unitOfBytes (m.asm ++ [b]), stamp := m.stamp }] } := by
  have nonempty : m.asm ≠ [] := List.length_pos_iff.mp (by omega)
  unfold takeInsertByte
  rw [if_neg nonempty, if_neg (by omega)]

/-! ### Which unit the Classifier takes -/

theorem localEligible_iff (s : State) :
    localEligible s = true ↔ s.merge.localQ ≠ [] ∧ s.results.length < 8 := by
  simp [localEligible]

theorem heads_of_not_running {s : State} (h : running s = false) : feedHead s = none ∧ localHead s = none := by
  simp [feedHead, localHead, h]

/-- R11: the feed's unit where the local insert is not eligible or the preference names the feed. -/
theorem heads_of_feed {s : State} {q : StampedUnit} (hrun : running s = true) (hq : s.merge.feed.head? = some q)
    (h : localEligible s = false ∨ s.merge.pref = .feed) : feedHead s = some q ∧ localHead s = none := by
  have nonempty : s.merge.feed.isEmpty = false := by
    cases hf : s.merge.feed with
    | nil => rw [hf] at hq; cases hq
    | cons _ _ => rfl
  rcases h with h | h <;> simp [feedHead, localHead, hrun, h, hq, nonempty]

/-- R11: the local insert's unit where the feed is empty or the preference names the local insert. -/
theorem heads_of_local {s : State} {q : StampedUnit} (hrun : running s = true)
    (hq : s.merge.localQ.head? = some q) (room : s.results.length < 8)
    (h : s.merge.feed = [] ∨ s.merge.pref = .localInsert) : localHead s = some q ∧ feedHead s = none := by
  have eligible : localEligible s = true :=
    (localEligible_iff s).mpr ⟨fun e => (by rw [e] at hq; cases hq), room⟩
  rcases h with h | h <;> simp [feedHead, localHead, hrun, h, hq, eligible]

theorem heads_of_none {s : State} (hf : s.merge.feed = []) (hl : localEligible s = false) :
    feedHead s = none ∧ localHead s = none := by
  simp [feedHead, localHead, hf, hl]

/-! ### A row of another unit, and of its own -/

theorem onFeed_of_not_taken {row : FeedRow} {s : State} (h : ∀ q, ¬FeedTakes s row q)
    (act : CarriageUnit → State → State) : onFeed row act s = s := by
  unfold onFeed
  split
  · rename_i q head
    exact if_neg fun e => h q ⟨head, e⟩
  · rfl

theorem onFeed_of_taken {row : FeedRow} {s : State} {q : StampedUnit} (h : FeedTakes s row q)
    (act : CarriageUnit → State → State) : onFeed row act s = act q.unit (afterFeed s) := by
  simp only [onFeed, h.1, h.2, if_true]

theorem onLocal_of_not_taken {row : LocalRow} {s : State} (h : ∀ q, ¬LocalTakes s row q)
    (act : CarriageUnit → State → State) : onLocal row act s = s := by
  unfold onLocal
  split
  · rename_i q head
    exact if_neg fun e => h q ⟨head, e⟩
  · rfl

theorem onLocal_of_taken {row : LocalRow} {s : State} {q : StampedUnit} (h : LocalTakes s row q)
    (act : CarriageUnit → State → State) : onLocal row act s = act q.unit (afterLocal s) := by
  simp only [onLocal, h.1, h.2, if_true]

theorem exec_mediaUnit_of_not_taken {s : State} (h : ∀ q, ¬FeedTakes s .media q) :
    exec .mediaUnit s = .next s := by
  show execMediaUnit s = _
  unfold execMediaUnit
  split
  · rename_i q head
    exact congrArg _ (if_neg fun e => h q ⟨head, e⟩)
  · rfl

theorem exec_mediaUnit_of_taken {s : State} {q : StampedUnit} (h : FeedTakes s .media q) :
    exec .mediaUnit s = .next (commitsDue (classifyMedia q.unit q.stamp (tookFeed s))) := by
  show execMediaUnit s = _
  simp only [execMediaUnit, h.1, h.2, if_true]

/-! ### Routing of the units of the building feed -/

theorem byte_eq_of_toNat {b c : Byte} (h : b.toNat = c.toNat) : b = c := BitVec.eq_of_toNat_eq h

/-- R22: a kind code without a meaning. -/
theorem directiveKindOf_of_unknown {b : Byte} (h : b.toNat = 0 ∨ 10 < b.toNat) : directiveKindOf b = none := by
  unfold directiveKindOf
  repeat' split
  all_goals first
    | rfl
    | rename_i code
      rw [code] at h
      exact absurd h (by decide)

/-- R21: the three ways in which a directive is addressed to the part. -/
theorem addressedTo_iff (room : Nat) (groups : List Nat) (payload : List Byte) :
    addressedTo room groups payload = true ↔ byteAt payload 1 = 1
      ∨ (byteAt payload 1 = 2 ∧ 1 ≤ field payload 2 2 ∧ field payload 2 2 ≤ 4095 ∧ field payload 2 2 ∈ groups)
      ∨ (byteAt payload 1 = 3 ∧ room ≠ 0 ∧ field payload 2 2 = room) := by
  unfold addressedTo
  generalize byteAt payload 1 = mode
  by_cases h1 : mode = 1
  · simp [h1]
  · by_cases h2 : mode = 2
    · simp [h2, and_assoc]
    · by_cases h3 : mode = 3
      · simp [h3]
      · simp only [h1, h2, h3, if_false, false_and, or_self, Bool.false_eq_true]

theorem feedHeaderFault_of_clear {u : CarriageUnit} (h : u.phase = .clear) : feedHeaderFault u = false := by
  simp [feedHeaderFault, h]

theorem feedRow_of_fault {ins : Installation} {u : CarriageUnit} (h : feedHeaderFault u = true) :
    feedRow ins u = .discarded := by
  simp [feedRow, h]

/-- R13: a label that is neither a service's nor a management unit's. -/
theorem feedRow_of_stray {ins : Installation} {u : CarriageUnit} (h : isServiceLabel u.label.toNat = false)
    (hm : isFeedManagement u.label.toNat = false) : feedRow ins u = .discarded := by
  simp only [isFeedManagement, Bool.or_eq_false_iff, beq_eq_false_iff_ne] at hm
  simp [feedRow, h, hm]

/-- R21, R22: a directive of an unknown kind, or addressed elsewhere. -/
theorem feedRow_of_ignored (ins : Installation) {u : CarriageUnit} (phase : u.phase = .clear)
    (label : u.label.toNat = 4095)
    (h : directiveKindOf (byteAt u.payload 0) = none ∨ addressedTo ins.room ins.groups u.payload = false) :
    feedRow ins u = .ignored := by
  have fault := feedHeaderFault_of_clear phase
  cases code : directiveKindOf (byteAt u.payload 0) with
  | none => simp [feedRow, fault, label, isServiceLabel, code]
  | some kind =>
    have other := h.resolve_left fun e => (by cases code.symm.trans e)
    simp [feedRow, fault, label, isServiceLabel, code, other]

/-- R21, R22: a directive of a known kind, addressed to the part. -/
theorem feedRow_of_addressed (ins : Installation) {u : CarriageUnit} {kind : DirectiveKind}
    (phase : u.phase = .clear) (label : u.label.toNat = 4095)
    (addressed : addressedTo ins.room ins.groups u.payload = true)
    (code : directiveKindOf (byteAt u.payload 0) = some kind) : feedRow ins u = directiveRow kind u.payload := by
  simp [feedRow, feedHeaderFault_of_clear phase, label, isServiceLabel, code, addressed]

end Sys2Proof.Machine

open Sys2Proof Sys2Proof.Machine in
/-- Settles O8: the interface by what follows the unit-start indication. -/
theorem feedUnitEntersOrIsDropped : Obligations.FeedUnitEntersOrIsDropped := by
  refine ⟨fun bytes s hlive => ⟨fun sync whole => ⟨fun room => ?_, fun full => ?_⟩,
    fun sync short => exec_feedUnitArrival_of_short hlive sync short, ?_, ?_⟩,
    fun b s hlive => ⟨exec_feedInterfaceDiscard hlive, exec_feedInterfaceDiscard hlive⟩⟩
  · rw [exec_feedUnitArrival_of_unit hlive sync whole, unitOfBytes_take]
    exact congrArg _ (if_pos room)
  · rw [exec_feedUnitArrival_of_unit hlive sync whole]
    exact congrArg _ (if_neg (Nat.not_lt.mpr full))
  · rintro first rest rfl bad
    exact exec_feedUnitArrival_of_badSync hlive bad
  · rintro rfl
    exact exec_feedUnitArrival_of_unitless hlive rfl

open Sys2Proof.Machine in
/-- Settles O9: the evaluation by the shed state and the threshold. -/
theorem feedShedding : Obligations.FeedShedding := by
  refine ⟨fun s => ⟨fun h full => evalShed_of_begin h full, fun h room => evalShed_of_kept ?_,
    fun h full => evalShed_of_kept ?_, fun h room => evalShed_of_end h room⟩, fun s => rfl⟩
  · simp [shedAfter, h, room]
  · simp [shedAfter, h, full]

open Sys2Proof.Machine in
/-- Settles O10: the heads by the eligibility of the two inputs, and the rows through `onFeed` and
`onLocal`. -/
theorem classifierAlternates : Obligations.ClassifierAlternates := by
  refine ⟨fun s => ⟨running_iff s, fun hrun => ⟨fun q hq h => ?_, fun q hq room h =>
      heads_of_local hrun hq room h, fun hf hl => ?_⟩, heads_of_not_running, rfl, rfl⟩, ?_, ?_⟩
  · rw [← localEligible_iff, Bool.not_eq_true] at h
    exact heads_of_feed hrun hq h
  · rw [← localEligible_iff, Bool.not_eq_true] at hl
    exact heads_of_none hf hl
  · intro c row s rows h
    simp only [List.mem_cons, Prod.mk.injEq, List.not_mem_nil, or_false] at rows
    rcases rows with ⟨rfl, rfl⟩ | rows
    · exact exec_mediaUnit_of_not_taken h
    · rcases rows with ⟨rfl, rfl⟩ | ⟨rfl, rfl⟩ | ⟨rfl, rfl⟩ | ⟨rfl, rfl⟩ | ⟨rfl, rfl⟩ | ⟨rfl, rfl⟩
        | ⟨rfl, rfl⟩ | ⟨rfl, rfl⟩ | ⟨rfl, rfl⟩ | ⟨rfl, rfl⟩ | ⟨rfl, rfl⟩ | ⟨rfl, rfl⟩ | ⟨rfl, rfl⟩
        | ⟨rfl, rfl⟩ | ⟨rfl, rfl⟩
      all_goals exact congrArg _ (onFeed_of_not_taken h _)
  · intro c row s rows h
    simp only [List.mem_cons, Prod.mk.injEq, List.not_mem_nil, or_false] at rows
    rcases rows with ⟨rfl, rfl⟩ | ⟨rfl, rfl⟩ | ⟨rfl, rfl⟩ | ⟨rfl, rfl⟩ | ⟨rfl, rfl⟩ | ⟨rfl, rfl⟩
      | ⟨rfl, rfl⟩ | ⟨rfl, rfl⟩ | ⟨rfl, rfl⟩
    all_goals exact congrArg _ (onLocal_of_not_taken h _)

open Sys2Proof.Machine in
/-- Settles O11: the row by the header check, then the label, then the directive's code. -/
theorem feedUnitsAreRouted : Obligations.FeedUnitsAreRouted := by
  refine ⟨fun ins u => ?_, fun s q h => congrArg _ (onFeed_of_taken h _),
    fun s q h => congrArg _ (onFeed_of_taken h _)⟩
  dsimp only
  rw [← addressedTo_iff]
  refine ⟨fun h => feedRow_of_fault ?_, fun label h => feedRow_of_fault ?_, fun phase low high => ?_,
    fun label => ?_, fun phase label => ?_, fun phase label => ?_,
    fun phase label code => feedRow_of_ignored ins phase label (.inl (directiveKindOf_of_unknown code)),
    fun phase label other => feedRow_of_ignored ins phase label (.inr (Bool.not_eq_true _ ▸ other)), ?_⟩
  · simp [feedHeaderFault, h]
  · rcases label with label | label | label <;> simp [feedHeaderFault, isFeedManagement, label, h]
  · have management : isFeedManagement u.label.toNat = false := by
      simp only [isFeedManagement, Bool.or_eq_false_iff, beq_eq_false_iff_ne]
      omega
    simp [feedRow, feedHeaderFault, phase, management, isServiceLabel, low, high]
  · refine feedRow_of_stray ?_ ?_
    · simp only [isServiceLabel, Bool.and_eq_false_iff, decide_eq_false_iff_not]
      omega
    · simp only [isFeedManagement, Bool.or_eq_false_iff, beq_eq_false_iff_ne]
      omega
  · simp [feedRow, feedHeaderFault_of_clear phase, label, isServiceLabel]
  · simp [feedRow, feedHeaderFault_of_clear phase, label, isServiceLabel]
  · intro phase label addressed
    have row {kind : DirectiveKind} (code : Sys2Proof.Byte) (known : directiveKindOf code = some kind)
        (h : (byteAt u.payload 0).toNat = code.toNat) : feedRow ins u = directiveRow kind u.payload :=
      feedRow_of_addressed ins phase label addressed (byte_eq_of_toNat h ▸ known)
    have mode : byteAt (directiveBody u.payload) 0 = byteAt u.payload 8 := byteAt_drop 8 0 u.payload
    refine ⟨row 1 rfl, row 2 rfl, row 3 rfl, row 4 rfl, row 5 rfl, row 6 rfl, row 7 rfl, row 8 rfl,
      row 9 rfl, fun code on => ?_, fun code off => ?_⟩
    · rw [row 10 rfl code, directiveRow, mode, if_neg on]
    · rw [row 10 rfl code, directiveRow, mode, if_pos off]

open Sys2Proof.Machine in
/-- Settles O12: the byte by the ready line and the assembly. -/
theorem localInsertAssemblesUnits : Obligations.LocalInsertAssemblesUnits := by
  intro b s
  refine ⟨insertReady_iff s, fun held => ?_, fun ready h hb => ?_, fun ready h hb => ?_,
    fun ready h room => ?_, fun ready last => ?_⟩ <;> rw [exec_localInsertByte]
  · simp [held]
  · rw [if_pos ready, takeInsertByte_of_badSync h hb]
  · rw [if_pos ready, takeInsertByte_of_sync h hb]
  · rw [if_pos ready, takeInsertByte_of_room h room]
  · rw [if_pos ready, takeInsertByte_of_last last]
end

section
/-!
The media path and the selections (O15, O16, O47, O48).
-/
namespace Sys2Proof.Machine

/-! ### The classification of a media unit -/

/-- R15, R17: a unit that a step of the classification discards. -/
theorem classifyMedia_of_discarded {u : CarriageUnit} {stamp : BitVec 24} {t : State}
    (h : serviceRow t u.label.toNat = none
      ∨ (t.outA.selected ≠ u.label.toNat ∧ t.outB.selected ≠ u.label.toNat)
      ∨ (t.merge.shed = .shedding ∧ t.outB.selected = u.label.toNat ∧ t.outA.selected ≠ u.label.toNat)
      ∨ referenceOf t.merge.refs u.label.toNat = some u.sequence) : classifyMedia u stamp t = t := by
  unfold classifyMedia
  dsimp only
  rcases h with h | ⟨hA, hB⟩ | ⟨shed, hB, hA⟩ | h
  · simp [h]
  · simp [isSelected, hA, hB]
  · simp [shed, hA, hB]
  · simp [sequenceCase, h]

/-- R15, R17: a unit that no step of the classification discards is handed on. -/
theorem classifyMedia_of_handedOn {u : CarriageUnit} {stamp : BitVec 24} {t : State}
    (row : serviceRow t u.label.toNat ≠ none)
    (selected : t.outA.selected = u.label.toNat ∨ t.outB.selected = u.label.toNat)
    (shown : ¬(t.merge.shed = .shedding ∧ t.outB.selected = u.label.toNat ∧ t.outA.selected ≠ u.label.toNat))
    (fresh : referenceOf t.merge.refs u.label.toNat ≠ some u.sequence) :
    classifyMedia u stamp t = presentUnit u stamp (checkSequence u t) := by
  have hasRow : (serviceRow t u.label.toNat).isNone ≠ true := by simpa using row
  have isSel : (!isSelected t u.label.toNat) ≠ true := by
    rcases selected with h | h <;> simp [isSelected, h]
  have notShed : (t.merge.shed == .shedding && t.outB.selected == u.label.toNat
      && t.outA.selected != u.label.toNat) ≠ true := by simpa [and_assoc] using shown
  have notDuplicate : sequenceCase t.merge.refs u ≠ .duplicate := by
    unfold sequenceCase
    split
    · simp
    · rename_i r hr
      rw [if_neg fun e => fresh (by rw [hr, e])]
      split <;> simp
  unfold classifyMedia
  rw [if_neg hasRow, if_neg isSel, if_neg notShed, if_neg notDuplicate]

/-! ### The sequence check -/

/-- R17: a gap. -/
theorem sequenceCase_gap_iff {refs : List SequenceRef} {u : CarriageUnit}
    (fresh : referenceOf refs u.label.toNat ≠ some u.sequence) :
    (sequenceCase refs u == .gap) = true ↔
      ∃ r, referenceOf refs u.label.toNat = some r ∧ u.sequence ≠ r + 1 := by
  unfold sequenceCase
  cases h : referenceOf refs u.label.toNat with
  | none => simp
  | some r =>
    have ne : u.sequence ≠ r := fun e => fresh (by rw [h, e])
    by_cases next : u.sequence = r + 1 <;> simp [ne, next]

/-- R16, R17: after the check the unit's label has the unit's sequence as its reference. -/
theorem referenceOf_withReference (u : CarriageUnit) (refs : List SequenceRef) :
    referenceOf (withReference u refs) u.label.toNat = some u.sequence := by
  simp [referenceOf, withReference]

/-- R16, R17: the references of the other labels stand. -/
theorem referenceOf_withReference_of_ne {u : CarriageUnit} {m : Nat} (h : m ≠ u.label.toNat)
    (refs : List SequenceRef) : referenceOf (withReference u refs) m = referenceOf refs m := by
  have own : (u.label.toNat == m) = false := beq_eq_false_iff_ne.mpr h.symm
  have kept (r : SequenceRef) :
      decide ((r.label != u.label.toNat) = true ∧ (r.label == m) = true) = (r.label == m) := by
    by_cases hr : r.label = m <;> simp [hr, h]
  simp only [referenceOf, withReference, List.find?_cons, own, List.find?_filter, kept]

/-! ### The Descrambler and the gate -/

theorem unitVerdict_eq (admission : Verdict) (outcome : Outcome) (entryWait start : Bool) :
    unitVerdict admission outcome entryWait start = verdictOf admission outcome entryWait start := by
  unfold unitVerdict verdictOf
  cases admission.passes <;> cases entryWait <;> cases start <;> rfl

/-- R84: the keystream register holds what a descrambled unit leaves in it. -/
theorem descramble_keystream (keys : KeyTable) (u : CarriageUnit) : (descramble keys u).2.2 =
    if (descramble keys u).1 = .descrambled then (descramble keys u).2.2 else keys.keystream := by
  unfold descramble
  split
  · rfl
  · split <;> rfl

theorem afterUnit_eq (keys : KeyTable) (u : CarriageUnit) : keys.afterUnit u =
    { slots := if (descramble keys u).1 = .descrambled then markUsed u.label.toNat keys.slots else keys.slots
      loads := keys.loads
      keystream :=
        if (descramble keys u).1 = .descrambled then (descramble keys u).2.2 else keys.keystream } := by
  rw [← descramble_keystream]
  rfl

/-- R163 to R165: what gating a unit does to an output. -/
theorem Output.gated_with (out : Output) (q : StampedUnit) (payload : List Byte) (v : Verdict) :
    GatedWith q payload v out (out.gated q.unit q.stamp payload v) :=
  ⟨fun room => if_pos room, fun full => if_neg (Nat.not_lt.mpr full)⟩

theorem gatedOutput_of_other {s : State} {u : CarriageUnit} {out : Output} (h : out.selected ≠ u.label.toNat)
    (stamp : BitVec 24) (outcome : Outcome) (payload : List Byte) :
    gatedOutput s u stamp outcome payload out = out := if_neg h

theorem gatedOutput_of_selected {s : State} {u : CarriageUnit} {out : Output}
    (h : out.selected = u.label.toNat) (stamp : BitVec 24) (outcome : Outcome) (payload : List Byte) :
    gatedOutput s u stamp outcome payload out = out.gated u stamp payload
      (verdictOf (admissionOf s u.label.toNat) outcome out.entryWait u.start) :=
  (if_pos h).trans (congrArg _ (unitVerdict_eq ..))

theorem afterCheck_of_other {u : CarriageUnit} {out : Output} (h : out.selected ≠ u.label.toNat) (gap : Bool) :
    out.afterCheck u gap = out := by
  simp [Output.afterCheck, beq_eq_false_iff_ne.mpr h]

theorem afterCheck_of_selected {u : CarriageUnit} {out : Output} (h : out.selected = u.label.toNat)
    (gap : Bool) : out.afterCheck u gap = { out with entryWait := out.entryWait || gap } := by
  simp [Output.afterCheck, h]

/-- R17, R163 to R165: an output that does not select the unit's label is left as it is by check and gate. -/
theorem gatedOutput_afterCheck_of_other {s : State} {u : CarriageUnit} {out : Output}
    (h : out.selected ≠ u.label.toNat) (gap : Bool) (stamp : BitVec 24) (outcome : Outcome)
    (payload : List Byte) : gatedOutput s u stamp outcome payload (out.afterCheck u gap) = out := by
  rw [afterCheck_of_other h, gatedOutput_of_other h]

/-- R17, R163 to R165: an output that selects the unit's label, after check and gate. -/
theorem gatedOutput_afterCheck_of_selected {s : State} {q : StampedUnit} {out : Output}
    (h : out.selected = q.unit.label.toNat) (gap : Bool) (outcome : Outcome) (payload : List Byte) :
    GatedWith q payload (verdictOf (admissionOf s q.unit.label.toNat) outcome (out.entryWait || gap) q.unit.start)
      { out with entryWait := out.entryWait || gap }
      (gatedOutput s q.unit q.stamp outcome payload (out.afterCheck q.unit gap)) := by
  have still : (out.afterCheck q.unit gap).selected = q.unit.label.toNat := h
  rw [gatedOutput_of_selected still, afterCheck_of_selected h]
  exact Output.gated_with ..

/-- R165: which unit is dropped. -/
theorem overrunsOn_eq (out : Output) (n : Nat) : (out.selected == n && overruns out)
    = (decide (out.selected = n) && decide (32 ≤ out.queue.length)) := by
  rw [overruns, beq_eq_decide]

/-! ### Commands of the local insert and directives of the feed -/

theorem onCommand_of_taken {α : Type} {kind : CommandKind} {read : List Byte → Option α} {s : State}
    {q : StampedUnit} {x : α} (h : LocalTakes s (.command kind) q) (operands : read q.unit.payload = some x)
    (act : α → State → Reply) : onCommand kind read act s =
      answered q (act x (afterLocal s)).2.1 (act x (afterLocal s)).2.2 (act x (afterLocal s)).1 := by
  rw [onCommand, onLocal_of_taken h]
  simp only [operands]
  rfl

theorem onCommand_of_frameFault {α : Type} {kind : CommandKind} {read : List Byte → Option α} {s : State}
    {q : StampedUnit} (h : LocalTakes s (.command kind) q) (fault : read q.unit.payload = none)
    (act : α → State → Reply) : onCommand kind read act s = answered q .badForm [] (afterLocal s) := by
  rw [onCommand, onLocal_of_taken h]
  simp only [fault]
  rfl

theorem onDirective_of_taken {α : Type} {row : FeedRow} {read : List Byte → Option α} {s : State}
    {q : StampedUnit} {x : α} (h : FeedTakes s row q) (operands : read q.unit.payload = some x)
    (act : α → State → State) : onDirective row read act s = act x (afterFeed s) := by
  rw [onDirective, onFeed_of_taken h]
  simp only [operands]

/-! ### Selections -/

theorem verdictOfRestored_eq (s : State) (label : Nat) :
    verdictOfRestored s label = if serviceRow s label = none then .noService else .none := by
  simp [verdictOfRestored]

theorem verdictOfGiven_eq (s : State) (label : Nat) :
    verdictOfGiven s label = if label ≠ 0 ∧ serviceRow s label = none then .noService else .none := by
  by_cases h : label = 0 <;> simp [verdictOfGiven, verdictOfRestored_eq, h]

/-- R161: SELECT on an output. -/
theorem selectOn_eq (o : OutputId) (label : Nat) (p : State) : selectOn o label p =
    { withOutput o ((output p o).given label (verdictOfGiven p label)) p with
      merge := { p.merge with
        refs := p.merge.refs.filter fun r => decide (r.label ≠ label)
          && isSelected (withOutput o ((output p o).given label (verdictOfGiven p label)) p) r.label } } := by
  have test (r : SequenceRef) : (!([label] : List Nat).contains r.label) = decide (r.label ≠ label) := by
    by_cases h : r.label = label <;> simp [h]
  simp only [selectOn, dropReferences, test, withOutput_merge]

/-- R16: where both outputs take a label given, no reference stays. -/
theorem dropReferences_of_given {given : List Nat} {s : State} (hA : s.outA.selected ∈ given)
    (hB : s.outB.selected ∈ given) :
    dropReferences given s = { s with merge := { s.merge with refs := [] } } := by
  have none : (s.merge.refs.filter fun r => !given.contains r.label && isSelected s r.label) = [] := by
    refine List.filter_eq_nil_iff.mpr fun r _ kept => ?_
    simp only [isSelected, Bool.and_eq_true, Bool.not_eq_true', Bool.or_eq_true, beq_iff_eq,
      List.contains_eq_mem, decide_eq_false_iff_not] at kept
    obtain ⟨notGiven, shown | shown⟩ := kept
    · exact notGiven (shown ▸ hA)
    · exact notGiven (shown ▸ hB)
  rw [dropReferences, none]

/-- R52: label 0 has no row. -/
theorem label_ne_zero_of_serviceRow {s : State} {label : Nat} {r : ServiceRow}
    (h : serviceRow s label = some r) : label ≠ 0 := by
  rintro rfl
  cases h

theorem hasOpenRow_iff (s : State) (label : Nat) :
    hasOpenRow s label = true ↔ ∃ r, serviceRow s label = some r ∧ r.access = .openToAll := by
  unfold hasOpenRow
  cases serviceRow s label with
  | none => simp
  | some r => simp

/-- R171: the override of a label with an OPEN row, which is not 0. -/
theorem showEmergency_eq {label : Nat} (h : label ≠ 0) (p : State) : showEmergency label p =
    { p with
      outA := { p.outA with
        selected := label, saved := if p.emergency = none then p.outA.selected else p.outA.saved
        state := .waiting, entryWait := true, last := .none, queue := [] }
      outB := { p.outB with
        selected := label, saved := if p.emergency = none then p.outB.selected else p.outB.saved
        state := .waiting, entryWait := true, last := .none, queue := [] }
      emergency := some label
      alerts := p.alerts.latchIf p.emergency.isNone .emergency
      merge := { p.merge with refs := [] } } := by
  refine (dropReferences_of_given (List.mem_singleton.mpr rfl) (List.mem_singleton.mpr rfl)).trans ?_
  simp [Output.overridden, Output.given, h]

/-- R172: both outputs take their saved labels back. -/
theorem endEmergency_of_active {p : State} (h : p.emergency ≠ none) : endEmergency p =
    { p with
      outA := p.outA.restored (verdictOfRestored p p.outA.saved)
      outB := p.outB.restored (verdictOfRestored p p.outB.saved)
      emergency := none
      merge := { p.merge with refs := [] } } := by
  rw [endEmergency, if_neg (by simpa using h)]
  exact dropReferences_of_given (by simp [Output.restored, Output.given]) (by simp [Output.restored, Output.given])

end Sys2Proof.Machine

open Sys2Proof.Machine in
/-- Settles O15: the classification by the step that discards. -/
theorem mediaUnitDiscarded : Obligations.MediaUnitDiscarded := by
  intro s q taken t n h
  rw [exec_mediaUnit_of_taken taken, classifyMedia_of_discarded h]

open Sys2Proof.Machine in
/-- Settles O16: check, Descrambler and gate, each by its own lemma. -/
theorem mediaUnitGated : Obligations.MediaUnitGated := by
  intro s q taken t n made row selected shown fresh
  refine ⟨sequenceCase t.merge.refs q.unit == .gap, presentUnit q.unit q.stamp (checkSequence q.unit t),
    ?exec, sequenceCase_gap_iff fresh, rfl, referenceOf_withReference ..,
    fun m hm => referenceOf_withReference_of_ne hm _, fun h => gatedOutput_afterCheck_of_other h ..,
    fun h => gatedOutput_afterCheck_of_selected h .., fun h => gatedOutput_afterCheck_of_other h ..,
    fun h => gatedOutput_afterCheck_of_selected h .., afterUnit_eq .., ?alerts, rfl⟩
  case exec => rw [exec_mediaUnit_of_taken taken, classifyMedia_of_handedOn row selected shown fresh]
  case alerts => rw [← overrunsOn_eq, ← overrunsOn_eq]; rfl

open Sys2Proof.Machine in
/-- Settles O47: the three outcomes of SELECT. -/
theorem selectGivesAnOutputItsLabel : Obligations.SelectGivesAnOutputItsLabel := by
  intro s q o label taken operands p
  have run : exec .select s = .next (answered q (selectLabel (o, label) p).2.1 (selectLabel (o, label) p).2.2
      (selectLabel (o, label) p).1) := congrArg _ (onCommand_of_taken taken operands _)
  rw [run]
  refine ⟨fun override => ?_, fun free high => ?_, fun free low => ?_⟩
  · have isSome : p.emergency.isSome = true := Option.isSome_iff_ne_none.mpr override
    simp [selectLabel, isSome]
  · simp [selectLabel, free, high]
  · simp only [selectLabel, free, Option.isSome_none, Bool.false_eq_true, if_false, Nat.not_lt.mpr low,
      selectOn_eq, verdictOfGiven_eq]
    rfl

open Sys2Proof.Machine in
/-- Settles O48: EMERGENCY ON and OFF by the row and by the override that stands. -/
theorem emergencyTakesBothOutputs : Obligations.EmergencyTakesBothOutputs := by
  refine ⟨fun s q label taken operands => ?_, fun s q taken operands => ?_⟩
  · intro p
    have run : exec .emergencyOn s = .next (beginEmergency label p) :=
      congrArg _ (onDirective_of_taken taken operands _)
    rw [run]
    refine ⟨fun closed => ?_, fun r row access => ?_⟩
    · have noRow : hasOpenRow p label = false := by
        rw [Bool.eq_false_iff, ne_eq, hasOpenRow_iff]
        exact fun ⟨r, row, access⟩ => closed r row access
      simp [beginEmergency, noRow, latch]
    · have hasRow : hasOpenRow p label = true := (hasOpenRow_iff p label).mpr ⟨r, row, access⟩
      refine ⟨fun shown => by simp [beginEmergency, hasRow, shown], fun other => ?_⟩
      simp [beginEmergency, hasRow, other, showEmergency_eq (label_ne_zero_of_serviceRow row)]
  · intro p
    have run : exec .emergencyOff s = .next (endEmergency p) :=
      congrArg _ (onDirective_of_taken taken operands _)
    rw [run]
    refine ⟨fun free => by simp [endEmergency, free], fun active => ?_⟩
    rw [endEmergency_of_active active, verdictOfRestored_eq, verdictOfRestored_eq]
    rfl
end

section
/-!
The end of the installation read (O7).
-/
namespace Sys2Proof.Machine

/-! ### The fields of the record (R88) -/

/-- The images of `size` bytes stand one after the other. -/
theorem images_eq_map (size n : Nat) (bytes : List Byte) :
    images size n bytes = (List.range n).map fun k => (bytes.drop (size * k)).take size := by
  induction n generalizing bytes with
  | zero => rfl
  | succ n ih =>
    rw [images, ih, List.range_succ_eq_map, List.map_cons, List.map_map, Nat.mul_zero, List.drop_zero]
    refine congrArg _ (List.map_congr_left fun k _ => ?_)
    rw [List.drop_drop, Function.comp, Nat.succ_eq_add_one, Nat.mul_add, Nat.mul_one, Nat.add_comm]

theorem readGroups_eq (bytes : List Byte) : (images 2 8 (bytes.drop 2)).map (fun b => groupOf (beNat b)) =
    (List.range 8).map fun k =>
      if field bytes (2 + 2 * k) 2 ≤ 4095 then field bytes (2 + 2 * k) 2 else 0 := by
  rw [images_eq_map, List.map_map]
  refine List.map_congr_left fun k _ => ?_
  simp only [Function.comp, List.drop_drop]
  rfl

theorem readLevels_eq (bytes : List Byte) : readLevels bytes = (List.range 15).map fun k =>
    if 1 ≤ (byteAt bytes (24 + k)).toNat ∧ (byteAt bytes (24 + k)).toNat ≤ 6
      then (byteAt bytes (24 + k)).toNat else 3 := by
  rw [readLevels, levelBytes, List.map_map]
  refine List.map_congr_left fun k _ => ?_
  simp [levelOk]

theorem byte_eq_iff (b c : Byte) : b = c ↔ b.toNat = c.toNat := BitVec.toNat_inj.symm

theorem readSense_eq (bytes : List Byte) :
    readSense bytes = if (byteAt bytes 23).toNat = 2 then .falling else .rising := by
  unfold readSense
  generalize byteAt bytes 23 = code
  by_cases h2 : code = 2
  · subst h2
    rfl
  · have other : ¬code.toNat = 2 := fun e => h2 ((byte_eq_iff code 2).mpr e)
    rw [if_neg other, senseOf, if_neg h2]
    split <;> rfl

theorem byteIsOne_eq (b : Byte) : (b == 1) = decide (b.toNat = 1) := by
  rw [beq_eq_decide]
  exact decide_eq_decide.mpr (byte_eq_iff b 1)

theorem readPasses_eq (bytes : List Byte) :
    readPasses bytes = decide (field bytes 64 4 = (signature (bytes.take 64)).toNat) :=
  beq_eq_decide _ _

/-- R8: the pair of thresholds in force. -/
theorem thresholdsOf_eq (shedThr resumeThr : Nat) : thresholdsOf shedThr resumeThr =
    (if decide (8 ≤ shedThr ∧ shedThr ≤ 63 ∧ resumeThr < shedThr) then shedThr else 48,
      if decide (8 ≤ shedThr ∧ shedThr ≤ 63 ∧ resumeThr < shedThr) then resumeThr else 16) := by
  unfold thresholdsOf
  by_cases h : 8 ≤ shedThr ∧ shedThr ≤ 63 ∧ resumeThr < shedThr <;> simp [h]

/-- R88: every field of a record whose signature passes. -/
theorem readInstallation_eq (bytes : List Byte) : readInstallation bytes =
    { room := field bytes 0 2
      groups := (List.range 8).map fun k =>
        if field bytes (2 + 2 * k) 2 ≤ 4095 then field bytes (2 + 2 * k) 2 else 0
      shedThr :=
        if decide (8 ≤ (byteAt bytes 18).toNat ∧ (byteAt bytes 18).toNat ≤ 63
          ∧ (byteAt bytes 19).toNat < (byteAt bytes 18).toNat) then (byteAt bytes 18).toNat else 48
      resumeThr :=
        if decide (8 ≤ (byteAt bytes 18).toNat ∧ (byteAt bytes 18).toNat ≤ 63
          ∧ (byteAt bytes 19).toNat < (byteAt bytes 18).toNat) then (byteAt bytes 19).toNat else 16
      trailerA := decide ((byteAt bytes 20).toNat = 1)
      trailerB := decide ((byteAt bytes 21).toNat = 1)
      billingHigh :=
        if 1 ≤ (byteAt bytes 22).toNat ∧ (byteAt bytes 22).toNat ≤ 31 then (byteAt bytes 22).toNat else 24
      fault := false } := by
  rw [readInstallation, readGroups_eq, thresholdsOf_eq, byteIsOne_eq, byteIsOne_eq]

/-- R40, R90: the Alert Unit after the read. -/
theorem alertsAfterRead_eq (bytes : List Byte) (a : AlertUnit) : alertsAfterRead bytes a =
    if readPasses bytes then { a with levels := readLevels bytes, sense := readSense bytes }
    else { a.latch .installationFault with levels := List.replicate 15 3, sense := .rising } := by
  unfold alertsAfterRead
  cases readPasses bytes <;> simp

/-! ### The start-up completion -/

/-- R106: a completion of a change of tenancy. -/
theorem completeTenancy_completed (s : State) : Completed s (completeTenancy s) where
  ret := by
    rw [completeTenancy_ret]
    cases incoming : s.ret.incoming <;> cases building : s.time.building <;>
      simp [billingDayAtCompletion, guest, incoming, building, installIncoming]
    rfl
  closing := rfl
  alerts := rfl
  lock := rfl
  outA := rfl
  outB := rfl
  others := rfl

theorem startUpCompletion_of_closing {s : State} (h : s.ret.tenancy = .closing) :
    startUpCompletion s = completeTenancy s := by
  simp [startUpCompletion, h]

theorem startUpCompletion_of_occupied {s : State} (h : s.ret.tenancy = .occupied) :
    startUpCompletion s = evalMembership (endAll .power s) := by
  simp [startUpCompletion, h]

/-- R120: without a guest the membership is NONE. -/
theorem startUpCompletion_of_vacant {s : State} (h : s.ret.tenancy = .vacant) :
    startUpCompletion s = { s with lock := { s.lock with membership := .none } } := by
  have noGuest : membershipNow s = .none := by simp [membershipNow, guest, h]
  simp [startUpCompletion, h, evalMembership, noGuest]

/-- R143: what the ends of the live purchases leave is said of the state before by its retained area, its
offer position and its time, and of the state after by more than the lock. -/
theorem EndsAll.evalMembership_ended {reason : EndReason} {s b t : State} (h : EndsAll reason b t)
    (ret : b.ret = s.ret) (offer : b.offer = s.offer) (time : b.time = s.time) :
    AllEnded reason s (evalMembership t) := by
  obtain ⟨purchases, kept, posted, serials, nextSerial, stamped, offered⟩ := h.ended
  rw [ret] at kept posted serials nextSerial stamped offered
  rw [offer] at offered
  rw [time] at stamped
  exact ⟨purchases, kept, posted, serials, nextSerial, stamped, offered⟩

end Sys2Proof.Machine

open Sys2Proof.Machine in
/-- Settles O7: the values put in force are those of `readEnded`; the start-up completion by the tenancy. -/
theorem installationReadPutsValuesInForce : Obligations.InstallationReadPutsValuesInForce := by
  intro memory s bytes number passes pairOk record levels begun
  have installed : installationOf bytes = if passes then record else defaultRecord true := by
    rw [installationOf, readPasses_eq, readInstallation_eq]
    rfl
  have alerted : alertsAfterRead bytes s.alerts =
      if passes then
        { s.alerts with levels := levels, sense := if number 23 = 2 then .falling else .rising }
      else { s.alerts.latch .installationFault with levels := List.replicate 15 3, sense := .rising } := by
    rw [alertsAfterRead_eq, readPasses_eq, readLevels_eq, readSense_eq]
  have inForce : evalShed (readEnded memory s) = begun := by
    show evalShed { s with
      power := { s.power with phase := .running }
      install := installationOf bytes
      readSig := signature (bytes.take 64)
      alerts := alertsAfterRead bytes s.alerts } = begun
    rw [installed, alerted]
  refine ⟨fun hlive phase => ⟨startUpCompletion begun, ?run, fun vacant => startUpCompletion_of_vacant vacant,
    fun closing => ?closing, fun occupied => ?occupied⟩, fun idle => ?idle⟩
  case run => rw [exec_installationReadEnd, inForce, hlive, phase]; rfl
  case closing =>
    rw [startUpCompletion_of_closing (s := begun) closing]
    exact ⟨completeTenancy_completed begun, rfl⟩
  case idle =>
    rw [exec_installationReadEnd, if_neg]
    rcases idle with h | h <;> simp [h]
  case occupied =>
    rw [startUpCompletion_of_occupied (s := begun) occupied]
    have ends := endAll_spec .power begun
    generalize endAll .power begun = t at ends
    have lock : t.lock = s.lock := by rw [ends.rest]; rfl
    have ended : AllEnded .power s (evalMembership t) := ends.evalMembership_ended rfl rfl rfl
    refine ⟨ended, ends.ret, ?lock, ended.offer, ends.keys, ?outputs, fun none => ?none, ends.refused,
      ends.latched, ?frame⟩
    case lock => exact congrArg (fun l : LockUnit => { l with membership := membershipNow t }) lock
    case outputs =>
      rintro (_ | _)
      · exact ends.outA
      · exact ends.outB
    case none =>
      obtain rfl := ends.whole none
      exact ⟨rfl, rfl, rfl⟩
    case frame =>
      have rest := ends.rest
      generalize t.ret = ret, t.offer = offer, t.keys.slots = slots, t.outA = outA, t.outB = outB,
        t.alerts.latched = latched at rest
      subst rest
      rfl
end

section
/-!
The local commands: their routing, their readers, their results (O14).
-/
namespace Sys2Proof.Machine

/-! ### Fields of a payload -/

theorem mbz_iff (bytes : List Byte) (at_ n : Nat) :
    mbz bytes at_ n = true ↔ ∀ i, i < n → (byteAt bytes (at_ + i)).toNat = 0 := by
  have zero (b : Byte) : (b == 0) = true ↔ b.toNat = 0 := by rw [beq_iff_eq, byte_eq_iff]; rfl
  simp only [mbz, List.all_eq_true, zero]
  constructor
  · intro h i hi
    by_cases present : at_ + i < bytes.length
    · refine h _ (List.mem_iff_getElem?.mpr ⟨i, ?_⟩)
      rw [List.getElem?_take_of_lt hi, List.getElem?_drop, byteAt, List.getD_eq_getElem?_getD,
        List.getElem?_eq_getElem present]
      rfl
    · rw [byteAt, List.getD_eq_default _ _ (by omega)]
      rfl
  · intro h b hb
    obtain ⟨i, hi⟩ := List.mem_iff_getElem?.mp hb
    have short : i < n := by
      by_contra far
      rw [List.getElem?_take_eq_none (by omega)] at hi
      cases hi
    rw [List.getElem?_take_of_lt short, List.getElem?_drop] at hi
    have := h i short
    rwa [byteAt, List.getD_eq_getElem?_getD, hi] at this

@[simp] theorem mbz_zero (bytes : List Byte) (at_ : Nat) : mbz bytes at_ 0 = true := by
  simp [mbz]

theorem mbz_succ (bytes : List Byte) (at_ n : Nat) : mbz bytes at_ (n + 1) = true ↔
    (byteAt bytes at_).toNat = 0 ∧ mbz bytes (at_ + 1) n = true := by
  simp only [mbz_iff, Nat.forall_lt_succ_left, Nat.add_zero, Nat.add_assoc, Nat.add_comm 1]

theorem byteAt_commandBody (payload : List Byte) (i : Nat) :
    byteAt (commandBody payload) i = byteAt payload (4 + i) := byteAt_drop 4 i payload

theorem mbz_commandBody (payload : List Byte) (i n : Nat) :
    mbz (commandBody payload) i n = mbz payload (4 + i) n := by
  rw [mbz, commandBody, List.drop_drop]
  rfl

theorem field_commandBody (payload : List Byte) (i n : Nat) :
    field (commandBody payload) i n = field payload (4 + i) n := by
  rw [field, commandBody, List.drop_drop]
  rfl

theorem commandHeaderOk_iff (payload : List Byte) (length : Nat) : commandHeaderOk payload length = true ↔
    (byteAt payload 2).toNat = length ∧ (byteAt payload 3).toNat = 0 := by
  rw [commandHeaderOk, Bool.and_eq_true, mbz_succ, mbz_zero, beq_iff_eq, and_iff_left rfl]

/-! ### The readers of the commands (R25) -/

theorem readSelect_iff (payload : List Byte) (o : OutputId) (label : Nat) :
    readSelect payload = some (o, label) ↔
      ((byteAt payload 2).toNat = 4 ∧ (byteAt payload 3).toNat = 0)
      ∧ (byteAt payload 4).toNat = (if o = .a then 1 else 2) ∧ (byteAt payload 5).toNat = 0
      ∧ label = field payload 6 2 := by
  simp only [readSelect, byteAt_commandBody, field_commandBody, mbz_commandBody, byte_eq_iff,
    Option.ite_none_right_eq_some, Bool.and_eq_true, commandHeaderOk_iff, mbz_succ, mbz_zero, and_true]
  by_cases hA : (byteAt payload 4).toNat = 1
  · cases o <;> simp [hA, and_assoc, eq_comm]
  · by_cases hB : (byteAt payload 4).toNat = 2 <;> cases o <;> simp [hA, hB, and_assoc, eq_comm]

theorem readPurchase_iff (payload : List Byte) (label : Nat) : readPurchase payload = some label ↔
    ((byteAt payload 2).toNat = 4 ∧ (byteAt payload 3).toNat = 0)
    ∧ (byteAt payload 6).toNat = 0 ∧ (byteAt payload 7).toNat = 0 ∧ label = field payload 4 2 := by
  simp only [readPurchase, field_commandBody, mbz_commandBody, Option.ite_none_right_eq_some, Bool.and_eq_true,
    commandHeaderOk_iff, mbz_succ, mbz_zero, and_true, Option.some.injEq, and_assoc, eq_comm (a := label)]

theorem readPinEntry_iff (payload : List Byte) (pin : Pin) : readPinEntry payload = some pin ↔
    ((byteAt payload 2).toNat = 4 ∧ (byteAt payload 3).toNat = 0)
    ∧ pin = { d1 := (byteAt payload 4).toNat, d2 := (byteAt payload 5).toNat, d3 := (byteAt payload 6).toNat,
              d4 := (byteAt payload 7).toNat }
    ∧ pin.d1 ≤ 9 ∧ pin.d2 ≤ 9 ∧ pin.d3 ≤ 9 ∧ pin.d4 ≤ 9 := by
  simp only [readPinEntry, byteAt_commandBody, Option.ite_none_right_eq_some, Bool.and_eq_true,
    commandHeaderOk_iff, decide_eq_true_eq, Option.some.injEq]
  constructor
  · rintro ⟨⟨⟨⟨⟨header, h1⟩, h2⟩, h3⟩, h4⟩, rfl⟩
    exact ⟨header, rfl, h1, h2, h3, h4⟩
  · rintro ⟨header, rfl, h1, h2, h3, h4⟩
    exact ⟨⟨⟨⟨⟨header, h1⟩, h2⟩, h3⟩, h4⟩, rfl⟩

theorem readRelock_iff (payload : List Byte) : readRelock payload = some () ↔
    (byteAt payload 2).toNat = 0 ∧ (byteAt payload 3).toNat = 0 := by
  simp only [readRelock, Option.ite_none_right_eq_some, commandHeaderOk_iff, and_true]

/-- §11.4: the views in the order of their codes, from 1 on. -/
def viewsInOrder : List View :=
  [.outputs, .purchases, .lock, .clock, .tables, .keys, .billing, .fifos, .alerts]

theorem viewOf_iff (code : Byte) (v : View) :
    viewOf code = some v ↔ code.toNat ≠ 0 ∧ viewsInOrder[code.toNat - 1]? = some v := by
  unfold viewOf
  repeat' split
  case isFalse h1 h2 h3 h4 h5 h6 h7 h8 h9 =>
    refine iff_of_false (by simp) fun ⟨nonzero, h⟩ => ?_
    have last : code.toNat - 1 < 9 := (List.getElem?_eq_some_iff.mp h).1
    simp only [byte_eq_iff, BitVec.ofNat_eq_ofNat, BitVec.reduceToNat] at h1 h2 h3 h4 h5 h6 h7 h8 h9
    omega
  all_goals
    rename_i code
    subst code
    simp [viewsInOrder]

theorem readQuery_iff (payload : List Byte) (v : View) : readQuery payload = some v ↔
    ((byteAt payload 2).toNat = 4 ∧ (byteAt payload 3).toNat = 0) ∧ (byteAt payload 5).toNat = 0
    ∧ (byteAt payload 6).toNat = 0 ∧ (byteAt payload 7).toNat = 0 ∧ (byteAt payload 4).toNat ≠ 0
    ∧ viewsInOrder[(byteAt payload 4).toNat - 1]? = some v := by
  simp only [readQuery, byteAt_commandBody, mbz_commandBody, Option.ite_none_right_eq_some, Bool.and_eq_true,
    commandHeaderOk_iff, mbz_succ, mbz_zero, and_true, viewOf_iff, and_assoc]

theorem senseOf_iff (code : Byte) (sense : Sense) :
    senseOf code = some sense ↔ code.toNat = if sense = .rising then 1 else 2 := by
  unfold senseOf
  by_cases h1 : code = 1
  · subst h1
    cases sense <;> decide
  · by_cases h2 : code = 2
    · subst h2
      cases sense <;> decide
    · rw [if_neg h1, if_neg h2]
      rw [byte_eq_iff] at h1 h2
      cases sense <;> simpa

theorem levelBytes_commandBody (payload : List Byte) : levelBytes (commandBody payload) 2 =
    (List.range 15).map fun k => (byteAt payload (6 + k)).toNat := by
  refine List.map_congr_left fun k _ => ?_
  rw [byteAt_commandBody, ← Nat.add_assoc]

theorem readAlertSetup_iff (payload : List Byte) (x : SetupOperands) : readAlertSetup payload = some x ↔
    ((byteAt payload 2).toNat = 20 ∧ (byteAt payload 3).toNat = 0) ∧ x.mask = (byteAt payload 4).toNat
    ∧ x.mask ≤ 7 ∧ (byteAt payload 5).toNat = (if x.sense = .rising then 1 else 2)
    ∧ x.levels = ((List.range 15).map fun k => (byteAt payload (6 + k)).toNat)
    ∧ (∀ n ∈ x.levels, 1 ≤ n ∧ n ≤ 6) ∧ (byteAt payload 21).toNat = 0 ∧ (byteAt payload 22).toNat = 0
    ∧ (byteAt payload 23).toNat = 0 := by
  rw [← senseOf_iff]
  unfold readAlertSetup
  simp only [byteAt_commandBody, levelBytes_commandBody, mbz_commandBody]
  generalize (List.range 15).map (fun k => (byteAt payload (6 + k)).toNat) = levels
  cases senseOf (byteAt payload 5) with
  | none => simp
  | some sense =>
    simp only [Option.ite_none_right_eq_some, Bool.and_eq_true, commandHeaderOk_iff, decide_eq_true_eq,
      mbz_succ, mbz_zero, and_true, Option.some.injEq, List.all_eq_true, levelOk]
    constructor
    · rintro ⟨⟨⟨⟨header, mask⟩, each⟩, spare⟩, rfl⟩
      exact ⟨header, rfl, mask, rfl, rfl, each, spare⟩
    · obtain ⟨mask', sense', levels'⟩ := x
      rintro ⟨header, rfl, mask, rfl, rfl, each, spare⟩
      exact ⟨⟨⟨⟨header, mask⟩, each⟩, spare⟩, rfl⟩

theorem readAlertClear_iff (payload : List Byte) (named : BitVec 16) : readAlertClear payload = some named ↔
    ((byteAt payload 2).toNat = 4 ∧ (byteAt payload 3).toNat = 0) ∧ field payload 4 4 < 65536
    ∧ named = BitVec.ofNat 16 (field payload 4 4) := by
  simp only [readAlertClear, field_commandBody, Option.ite_none_right_eq_some, Bool.and_eq_true,
    commandHeaderOk_iff, decide_eq_true_eq, Option.some.injEq, and_assoc, eq_comm (a := named)]

end Sys2Proof.Machine
end

section
/-!
The routing of local units, their results and the views of QUERY (O14).
-/
namespace Sys2Proof.Machine

/-! ### Routing (R14, R25) -/

theorem localRow_of_refused {u : CarriageUnit}
    (h : u.phase = .noMeaning ∨ u.label.toNat ≠ 4094 ∨ u.phase ≠ .clear) : localRow u = .refused := by
  have refused : (localHeaderFault u || u.label.toNat != 4094) = true := by
    by_cases label : u.label.toNat = 4094
    · rcases h with h | h | h
      · simp [localHeaderFault, h]
      · exact absurd label h
      · simp [localHeaderFault, label, h]
    · simp [label]
  rw [localRow, if_pos refused]

theorem not_refused_of_clear {u : CarriageUnit} (label : u.label.toNat = 4094) (phase : u.phase = .clear) :
    (localHeaderFault u || u.label.toNat != 4094) = false := by
  simp [localHeaderFault, label, phase]

theorem localRow_of_unknown {u : CarriageUnit} (label : u.label.toNat = 4094) (phase : u.phase = .clear)
    (code : commandKindOf (byteAt u.payload 0) = none) : localRow u = .unknown := by
  simp [localRow, not_refused_of_clear label phase, code]

theorem localRow_of_command {u : CarriageUnit} {kind : CommandKind} (label : u.label.toNat = 4094)
    (phase : u.phase = .clear) (code : commandKindOf (byteAt u.payload 0) = some kind) :
    localRow u = .command kind := by
  simp [localRow, not_refused_of_clear label phase, code]

/-- R25: a kind code without a meaning. -/
theorem commandKindOf_of_unknown {b : Byte} (h : b.toNat = 0 ∨ 7 < b.toNat) : commandKindOf b = none := by
  unfold commandKindOf
  repeat' split
  all_goals first
    | rfl
    | rename_i code
      rw [code] at h
      exact absurd h (by decide)

/-! ### The one result of a unit (R26) -/

/-- R26, R27: the unit `q` of a row is answered by one result, with an empty body unless the code is DONE. -/
def AnsweredByOne (row : LocalRow) (q : StampedUnit) (s t : State) : Prop :=
  ∃ r, t.results = s.results ++ [r]
    ∧ (row ≠ .refused → r.tag = byteAt q.unit.payload 1 ∧ r.kind = byteAt q.unit.payload 0)
    ∧ (r.code ≠ .done → r.body = [])

/-- The reply of an owner leaves the Result Queue to the parser, and has a body only with DONE. -/
def Reply.Plain (s : State) (reply : Reply) : Prop :=
  reply.1.results = s.results ∧ (reply.2.1 ≠ .done → reply.2.2 = [])

theorem afterLocal_results (s : State) : (afterLocal s).results = s.results :=
  (commitsDue_carried s).results

theorem exec_refusedUnit_of_taken {s : State} {q : StampedUnit} (h : LocalTakes s .refused q) :
    exec .refusedUnit s = .next { afterLocal s with
      results := s.results ++ [{ tag := 0, kind := 0, code := .badForm, body := [] }] } := by
  have run : exec .refusedUnit s = .next (pushResult refusal (afterLocal s)) :=
    congrArg Host.Outcome.next (onLocal_of_taken h _)
  rw [run, pushResult, afterLocal_results]
  rfl

theorem exec_unknownCommand_of_taken {s : State} {q : StampedUnit} (h : LocalTakes s .unknown q) :
    exec .unknownCommand s = .next (answered q .badForm [] (afterLocal s)) :=
  congrArg Host.Outcome.next (onLocal_of_taken h _)

theorem answered_answeredByOne (row : LocalRow) (q : StampedUnit) {code : ResultCode} {body : List Byte}
    {s t : State} (results : t.results = s.results) (empty : code ≠ .done → body = []) :
    AnsweredByOne row q s (answered q code body t) :=
  ⟨_, congrArg (· ++ _) results, fun _ => ⟨rfl, rfl⟩, empty⟩

theorem onCommand_answeredByOne {α : Type} {kind : CommandKind} (read : List Byte → Option α)
    {act : α → State → Reply} (plain : ∀ x s, (act x s).Plain s) {s : State} {q : StampedUnit}
    (h : LocalTakes s (.command kind) q) : AnsweredByOne (.command kind) q s (onCommand kind read act s) := by
  cases operands : read q.unit.payload with
  | none =>
    rw [onCommand_of_frameFault h operands]
    exact answered_answeredByOne _ q (afterLocal_results s) fun _ => rfl
  | some x =>
    obtain ⟨results, body⟩ := plain x (afterLocal s)
    rw [onCommand_of_taken h operands]
    exact answered_answeredByOne _ q (results.trans (afterLocal_results s)) body

theorem selectLabel_plain (x : OutputId × Nat) (s : State) : (selectLabel x s).Plain s := by
  refine ⟨selectLabel_results x s, ?_⟩
  unfold selectLabel
  split
  · exact fun _ => rfl
  · split <;> exact fun _ => rfl

theorem buy_plain (label : Nat) (s : State) : (buy label s).Plain s := by
  refine ⟨(buy_carried label s).results, ?_⟩
  unfold buy buyFilm
  repeat' split
  all_goals first
    | exact fun _ => rfl
    | exact fun h => absurd rfl h

theorem enterPin_plain (digits : Pin) (s : State) : (enterPin digits s).Plain s := by
  refine ⟨(enterPin_carried digits s).results, ?_⟩
  unfold enterPin
  repeat' split
  all_goals exact fun _ => rfl

/-! ### The fields of the views (R177) -/

theorem beBytes_one_toNat (b : Byte) : beBytes 1 b.toNat = [b] := by
  simp [beBytes]

theorem fieldBytes_nil : fieldBytes [] = [] := rfl

theorem fieldBytes_cons (width value : Nat) (rest : List (Nat × Nat)) :
    fieldBytes ((width, value) :: rest) = beBytes width value ++ fieldBytes rest := rfl

theorem fieldBytes_append (x y : List (Nat × Nat)) : fieldBytes (x ++ y) = fieldBytes x ++ fieldBytes y :=
  List.flatMap_append

theorem fieldBytes_flatMap {α : Type} (f : α → List (Nat × Nat)) (l : List α) :
    fieldBytes (l.flatMap f) = l.flatMap fun x => fieldBytes (f x) := List.flatMap_assoc ..

theorem fieldBytes_map {α : Type} (f : α → Nat × Nat) (l : List α) :
    fieldBytes (l.map f) = l.flatMap fun x => beBytes (f x).1 (f x).2 := List.flatMap_map ..

/-- R147: the purchases of the view stand in a sorted order of the table. -/
theorem byNumber_eq (l : List Purchase) : byNumber l = l.insertionSort fun p p' => p.number ≤ p'.number := by
  have insert (p : Purchase) (l : List Purchase) :
      insertByNumber p l = l.orderedInsert (fun p p' => p.number ≤ p'.number) p := by
    induction l with
    | nil => rfl
    | cons q rest ih => rw [insertByNumber, List.orderedInsert_cons, ih]
  induction l with
  | nil => rfl
  | cons p rest ih => rw [byNumber, List.insertionSort_cons, ih, insert]

theorem byNumber_perm (l : List Purchase) : (byNumber l).Perm l := by
  rw [byNumber_eq]
  exact List.perm_insertionSort _ l

theorem byNumber_pairwise (l : List Purchase) :
    (byNumber l).Pairwise fun p p' => p.number ≤ p'.number := by
  have : Std.Total fun p p' : Purchase => p.number ≤ p'.number := ⟨fun _ _ => Nat.le_total _ _⟩
  have : IsTrans Purchase fun p p' => p.number ≤ p'.number := ⟨fun _ _ _ => Nat.le_trans⟩
  rw [byNumber_eq]
  exact List.pairwise_insertionSort _ l

/-- R36: the set holds exactly the sources whose condition holds. -/
theorem conditionSet_bit (s : State) (src : AlertSource) :
    (conditionSet s).getLsbD src.code = conditionHolds s src := by
  have fold (l : List AlertSource) (set : BitVec 16) :
      (l.foldl (fun set x => set ||| (if conditionHolds s x then x.mask else 0)) set).getLsbD src.code
        = (set.getLsbD src.code || (l.contains src && conditionHolds s src)) := by
    induction l generalizing set with
    | nil => simp
    | cons x l ih =>
      rw [List.foldl_cons, ih, BitVec.getLsbD_or, List.contains_cons]
      by_cases hx : src = x
      · subst hx
        cases conditionHolds s src <;> simp [AlertSource.mask_bit]
      · have other : (src == x) = false := beq_eq_false_iff_ne.mpr hx
        cases conditionHolds s x <;> simp [AlertSource.mask_bit, hx, other]
  have mem : AlertSource.all.contains src = true := by cases src <;> rfl
  rw [conditionSet, fold, mem]
  simp

theorem outputView_eq (out : Output) : outputView out = fieldBytes
    [(2, out.selected), (2, out.saved), (1, out.state.code), (1, bit out.entryWait + 2 * bit out.viewed),
      (1, out.last.code.toNat), (1, out.queue.length)] := by
  simp only [outputView, fieldBytes_cons, fieldBytes_nil, beBytes_one_toNat, List.append_assoc, List.append_nil]

theorem purchaseView_of_grace {p : Purchase} {needed seen lapse : Nat} (h : p.state = .grace needed seen lapse) :
    purchaseView p = fieldBytes
      [(1, p.number), (1, 1), (2, p.film), (2, seen), (2, needed), (2, lapse), (4, p.total)] := by
  simp only [purchaseView, h, countsView, fieldBytes_cons, fieldBytes_nil, List.append_assoc, List.append_nil,
    List.take_left' (beBytes_length 1 1), List.drop_left' (beBytes_length 1 1)]

theorem purchaseView_of_running {p : Purchase} {position k remaining : Nat}
    (h : p.state = .running position k remaining) : purchaseView p = fieldBytes
      [(1, p.number), (1, 2), (2, p.film), (1, position), (1, k), (4, remaining), (4, p.total)] := by
  simp only [purchaseView, h, countsView, fieldBytes_cons, fieldBytes_nil, List.append_assoc, List.append_nil,
    List.take_left' (beBytes_length 1 2), List.drop_left' (beBytes_length 1 2)]

theorem tableView_eq (m : TableMachine) : tableView m = fieldBytes
    [(2, m.activeGen), (1, m.stage.code), (2, reportedGeneration m.stage),
      (1, bit (reportedActivation m.stage).isSome),
      (2, ((reportedActivation m.stage).map (·.day.toNat)).getD 0),
      (4, ((reportedActivation m.stage).map (·.second)).getD 0),
      (1, bit m.lastSig.isSome), (4, (m.lastSig.map (·.toNat)).getD 0)] := by
  simp only [tableView, fieldBytes_cons, fieldBytes_nil, List.append_assoc, List.append_nil]

theorem slotView_some (k : KeySlot) : slotView (some k) = fieldBytes
    [(1, 1 + 2 * bit k.house + 4 * bit k.wordA.isSome + 8 * bit k.wordB.isSome + 16 * bit k.used),
      (2, k.label), (2, k.order.toNat % 65536)] := by
  simp only [slotView, fieldBytes_cons, fieldBytes_nil, List.append_assoc, List.append_nil]

end Sys2Proof.Machine

open Sys2Proof.Machine in
/-- Settles O14: the routing, the one result, the answers, the readers, the views and the codes. -/
theorem localUnitsAreAnswered : Obligations.LocalUnitsAreAnswered := by
  refine ⟨fun u => ?routing, fun c row s q rows h => ?oneResult, fun s q => ?answers, fun payload => ?readers,
    fun s => ?views, rfl, rfl, rfl, rfl, fun _ => ⟨rfl, rfl, rfl⟩, fun _ _ _ _ _ => ⟨rfl, rfl, rfl, rfl⟩,
    rfl, rfl, rfl, rfl⟩
  case routing =>
    refine ⟨localRow_of_refused, fun label phase => ?_⟩
    have command {kind : CommandKind} (code : Sys2Proof.Byte) (known : commandKindOf code = some kind)
        (h : (byteAt u.payload 0).toNat = code.toNat) : localRow u = .command kind :=
      localRow_of_command label phase (byte_eq_of_toNat h ▸ known)
    exact ⟨fun code => localRow_of_unknown label phase (commandKindOf_of_unknown code), command 1 rfl,
      command 2 rfl, command 3 rfl, command 4 rfl, command 5 rfl, command 6 rfl, command 7 rfl⟩
  case oneResult =>
    have answered {t : State} (run : exec c s = .next t) (one : AnsweredByOne row q s t) :
        ∃ t r, exec c s = .next t ∧ t.results = s.results ++ [r]
          ∧ (row ≠ .refused → r.tag = byteAt q.unit.payload 1 ∧ r.kind = byteAt q.unit.payload 0)
          ∧ (r.code ≠ .done → r.body = []) :=
      one.elim fun r hr => ⟨t, r, run, hr⟩
    simp only [List.mem_cons, Prod.mk.injEq, List.not_mem_nil, or_false] at rows
    rcases rows with ⟨rfl, rfl⟩ | ⟨rfl, rfl⟩ | ⟨rfl, rfl⟩ | ⟨rfl, rfl⟩ | ⟨rfl, rfl⟩ | ⟨rfl, rfl⟩
      | ⟨rfl, rfl⟩ | ⟨rfl, rfl⟩ | ⟨rfl, rfl⟩
    · exact answered (exec_refusedUnit_of_taken h) ⟨_, rfl, fun refused => absurd rfl refused, fun _ => rfl⟩
    · exact answered (exec_unknownCommand_of_taken h)
        (answered_answeredByOne _ q (afterLocal_results s) fun _ => rfl)
    · exact answered rfl (onCommand_answeredByOne _ selectLabel_plain h)
    · exact answered rfl (onCommand_answeredByOne _ buy_plain h)
    · exact answered rfl (onCommand_answeredByOne _ enterPin_plain h)
    · exact answered rfl (onCommand_answeredByOne _ (fun _ s => ⟨(relockNow_carried s).results, fun _ => rfl⟩) h)
    · exact answered rfl (onCommand_answeredByOne _ (fun _ _ => ⟨rfl, fun e => absurd rfl e⟩) h)
    · exact answered rfl (onCommand_answeredByOne _ (fun _ _ => ⟨rfl, fun _ => rfl⟩) h)
    · exact answered rfl (onCommand_answeredByOne _ (fun _ _ => ⟨rfl, fun e => absurd rfl e⟩) h)
  case answers =>
    refine ⟨exec_refusedUnit_of_taken, exec_unknownCommand_of_taken, ?_, ?_, ?_, ?_, ?_, ?_, ?_, ?_⟩
    all_goals first
      | exact fun h fault => congrArg _ (onCommand_of_frameFault h fault _)
      | exact fun v h operands => congrArg _ (onCommand_of_taken h operands _)
  case readers =>
    exact ⟨readSelect_iff payload, readPurchase_iff payload, readPinEntry_iff payload, readRelock_iff payload,
      readQuery_iff payload, readAlertSetup_iff payload, readAlertClear_iff payload⟩
  case views =>
    intro flag shownOn bought window tableFields slotFields
    have outputs (out : Output) : outputView out = fieldBytes (shownOn out) := outputView_eq out
    have purchases : purchaseView = fun p => fieldBytes (bought p) := by
      funext p
      dsimp only [bought]
      cases state : p.state with
      | grace needed seen lapse => exact purchaseView_of_grace state
      | running position k remaining => exact purchaseView_of_running state
    have tables (m : TableMachine) : tableView m = fieldBytes (tableFields m) := by
      obtain ⟨_, _, stage, _, _, _⟩ := m
      rw [tableView_eq]
      cases stage <;> rfl
    have slots (slot : Option KeySlot) : slotView slot = fieldBytes (slotFields slot) := by
      cases slot with
      | none => rfl
      | some k => exact slotView_some k
    refine ⟨?outputs, ⟨byNumber s.ret.purchases, byNumber_perm _, byNumber_pairwise _, ?purchases⟩, ?lock,
      ?clock, ?tables, ?keys, ?billing, ?fifos, ?alerts, conditionSet_bit s⟩
    case outputs =>
      show outputView s.outA ++ outputView s.outB ++ beBytes 1 _ ++ beBytes 2 _ = _
      simp only [outputs, fieldBytes_append, fieldBytes_cons, fieldBytes_nil, List.append_assoc, List.append_nil]
      rfl
    case purchases =>
      show purchasesView s = _
      simp only [purchasesView, purchases, fieldBytes_append, fieldBytes_cons, fieldBytes_nil, fieldBytes_flatMap,
        List.append_assoc, List.append_nil]
      rfl
    case lock =>
      show lockView s = _
      simp only [lockView, recordView, fieldBytes_cons, fieldBytes_nil, List.append_assoc, List.append_nil]
      rfl
    case clock =>
      show clockView s = _
      simp only [clockView, fieldBytes_cons, fieldBytes_nil, List.append_assoc, List.append_nil]
      rfl
    case tables =>
      show tableView s.svc ++ tableView s.tar = _
      rw [tables, tables, fieldBytes_append]
    case keys =>
      show s.keys.slots.flatMap slotView = _
      rw [fieldBytes_flatMap]
      exact List.flatMap_congr fun slot _ => slots slot
    case billing =>
      show billingView s = _
      simp only [billingView, fieldBytes_cons, fieldBytes_nil, List.append_assoc, List.append_nil]
      rfl
    case fifos =>
      show fifosView s = _
      simp only [fifosView, fieldBytes_cons, fieldBytes_nil, List.append_assoc, List.append_nil]
    case alerts =>
      show alertsView s = _
      simp only [alertsView, fieldBytes_append, fieldBytes_cons, fieldBytes_nil, fieldBytes_map,
        List.append_assoc, List.append_nil]
      rfl
end

section
/-!
The flags of the level sources, the levels and the mask (O55): what the events of the part do to them
(`Watched`), and that every step keeps them (`AlertsKept`).
-/
namespace Sys2Proof.Machine

/-! ### What no event takes from the Alert Unit -/

/-- R35: flags are gained, none is lost; the levels and the mask stand. -/
structure AlertUnit.Gains (before after : AlertUnit) : Prop where
  latched : ∀ src, before.isLatched src = true → after.isLatched src = true
  levels : after.levels = before.levels
  mask : after.mask = before.mask

theorem AlertUnit.Gains.refl (a : AlertUnit) : a.Gains a := ⟨fun _ h => h, rfl, rfl⟩

theorem AlertUnit.Gains.trans {a b c : AlertUnit} (h : a.Gains b) (k : b.Gains c) : a.Gains c :=
  ⟨fun src x => k.latched src (h.latched src x), k.levels.trans h.levels, k.mask.trans h.mask⟩

theorem AlertUnit.gains_latchIf (a : AlertUnit) (b : Bool) (src : AlertSource) : a.Gains (a.latchIf b src) :=
  ⟨fun x h => by rw [AlertUnit.isLatched_latchIf, h, Bool.true_or], rfl, rfl⟩

theorem AlertUnit.gains_latch (a : AlertUnit) (src : AlertSource) : a.Gains (a.latch src) :=
  latchIf_true a src ▸ a.gains_latchIf true src

/-- R35, R36: from `s` to `t` no flag is lost, and a condition that begins to hold is latched. -/
structure Watched (s t : State) : Prop where
  gains : s.alerts.Gains t.alerts
  begun : ∀ src, conditionHolds t src = true → conditionHolds s src = true ∨ t.alerts.isLatched src = true

theorem Watched.refl (s : State) : Watched s s := ⟨.refl _, fun _ h => .inl h⟩

theorem Watched.trans {s t u : State} (h : Watched s t) (k : Watched t u) : Watched s u :=
  ⟨h.gains.trans k.gains, fun src hu => (k.begun src hu).elim
    (fun ht => (h.begun src ht).imp_right (k.gains.latched src)) .inr⟩

theorem Watched.foldl {α : Type} (f : State → α → State) (hf : ∀ s a, Watched s (f s a)) :
    ∀ (l : List α) (s : State), Watched s (l.foldl f s)
  | [], s => .refl s
  | a :: l, s => (hf s a).trans (Watched.foldl f hf l (f s a))

/-- R36: the five conditions, each read in one place of the state. -/
theorem Watched.of_conditions {s t : State} (gains : s.alerts.Gains t.alerts)
    (shed : t.merge.shed = .shedding → s.merge.shed = .shedding ∨ t.alerts.isLatched .insetShed = true)
    (lockout : t.lock.state.isLockout = true →
      s.lock.state.isLockout = true ∨ t.alerts.isLatched .lockout = true)
    (unset : t.time.building = none → s.time.building = none)
    (fault : t.install.fault = true → s.install.fault = true)
    (emergency : t.emergency.isSome = true →
      s.emergency.isSome = true ∨ t.alerts.isLatched .emergency = true) : Watched s t := by
  refine ⟨gains, fun src h => ?_⟩
  cases src with
  | insetShed => simpa [conditionHolds] using shed (by simpa [conditionHolds] using h)
  | lockout => exact lockout h
  | timeUnset => exact .inl (by simpa [conditionHolds] using unset (by simpa [conditionHolds] using h))
  | installationFault => exact .inl (fault h)
  | emergency => exact emergency h
  | _ => cases h

/-- R36: an event that changes none of the conditions but may end a lockout. -/
theorem Watched.of_kept {s t : State} (gains : s.alerts.Gains t.alerts) (shed : t.merge.shed = s.merge.shed)
    (lockout : t.lock.state.isLockout = true → s.lock.state.isLockout = true)
    (building : t.time.building = s.time.building) (install : t.install = s.install)
    (emergency : t.emergency = s.emergency) : Watched s t :=
  .of_conditions gains (fun h => .inl (shed ▸ h)) (fun h => .inl (lockout h)) (fun h => building ▸ h)
    (fun h => install ▸ h) (fun h => .inl (emergency ▸ h))

/-- R36: an operation of the consumers of an event. -/
theorem Watched.of_untouched {s t : State} (h : Untouched s t) (gains : s.alerts.Gains t.alerts)
    (lockout : t.lock.state.isLockout = true → s.lock.state.isLockout = true) : Watched s t :=
  .of_kept gains (congrArg _ h.merge) lockout (congrArg _ h.time) h.install h.emergency

/-- R36: an operation that neither latches nor touches what the conditions are read from. -/
theorem Watched.of_eq {s t : State} (alerts : t.alerts = s.alerts) (shed : t.merge.shed = s.merge.shed)
    (lock : t.lock = s.lock) (building : t.time.building = s.time.building) (install : t.install = s.install)
    (emergency : t.emergency = s.emergency) : Watched s t :=
  .of_kept (alerts ▸ .refl _) shed (fun h => lock ▸ h) building install emergency

theorem latch_watched (src : AlertSource) (s : State) : Watched s (latch src s) :=
  .of_untouched (latch_untouched src s) (s.alerts.gains_latch src) id

theorem purge_watched (s : State) : Watched s (purge s) := .of_eq rfl rfl rfl rfl rfl rfl

theorem flushKeys_watched (keep : KeySlot → Bool) (s : State) : Watched s (flushKeys keep s) :=
  .of_eq rfl rfl rfl rfl rfl rfl

theorem withMachine_watched (t : Table) (m : TableMachine) (s : State) : Watched s (withMachine t m s) :=
  .of_eq rfl rfl rfl rfl rfl rfl

theorem usedChoice_watched (s : State) : Watched s (usedChoice s) := .of_eq rfl rfl rfl rfl rfl rfl

theorem paid_watched (c : Consumer) (s : State) : Watched s (paid c s) := .of_eq rfl rfl rfl rfl rfl rfl

theorem setFailures_watched (n : Nat) (s : State) : Watched s (setFailures n s) :=
  .of_eq rfl rfl rfl rfl rfl rfl

theorem evalMembership_watched (s : State) : Watched s (evalMembership s) :=
  .of_untouched (evalMembership_untouched s) (.refl _) id

/-! ### The Lock Unit -/

/-- R118, R119: a lockout ends. -/
theorem lockoutEnded_watched (s : State) : Watched s { s with lock := { s.lock with state := .locked } } :=
  .of_kept (.refl _) rfl (fun h => by cases h) rfl rfl rfl

theorem leaveUnlocked_watched (s : State) : Watched s (leaveUnlocked s) :=
  ((lockoutEnded_watched s).trans (latch_watched .sessionEnded _)).trans (purge_watched _)

theorem closeLock_watched (s : State) : Watched s (closeLock s) := by
  rcases closeLock_cases s with ⟨_, e⟩ | ⟨_, _, e⟩ | ⟨_, _, e⟩ <;> rw [e]
  · exact .refl s
  · exact leaveUnlocked_watched s
  · exact lockoutEnded_watched s

theorem expiryEvent_watched (s : State) : Watched s (expiryEvent s) := by
  rcases expiryEvent_cases s with e | ⟨_, _, e⟩ | ⟨_, _, e⟩ <;> rw [e]
  · exact .refl s
  · exact leaveUnlocked_watched s
  · exact lockoutEnded_watched s

theorem windowEvent_watched (s : State) : Watched s (windowEvent s) := by
  rcases windowEvent_cases s with ⟨_, e⟩ | ⟨_, _, e⟩ | ⟨_, _, e⟩ <;> rw [e]
  · exact .refl s
  · exact (evalMembership_watched s).trans (purge_watched _)
  · exact evalMembership_watched s

theorem lockEvent_watched (s : State) : Watched s (lockEvent s) := by
  rcases lockEvent_cases s with ⟨_, e⟩ | ⟨_, e⟩ <;> rw [e]
  · exact (expiryEvent_watched s).trans (windowEvent_watched _)
  · exact (windowEvent_watched s).trans (expiryEvent_watched _)

/-- R115: the flag of LOCKOUT is set as the lockout begins. -/
theorem enterLockout_watched (s : State) : Watched s (enterLockout s) :=
  .of_conditions (s.alerts.gains_latch .lockout) .inl
    (fun _ => .inr (by simp [enterLockout])) id id .inl

/-! ### The Purchase Meter and the Billing Queue -/

theorem post_watched (entry : BillingEntry) (purchase film : Nat) (s : State) :
    Watched s (post entry purchase film s) :=
  .of_untouched (post_untouched entry purchase film s) (s.alerts.gains_latchIf ..) id

theorem purchaseEnded_watched (film : Nat) (s : State) : Watched s (purchaseEnded film s) :=
  (flushKeys_watched _ s).trans (purge_watched _)

theorem endPurchase_watched (n : Nat) (reason : EndReason) (s : State) :
    Watched s (endPurchase n reason s) := by
  rcases endPurchase_cases n reason s with ⟨_, e⟩ | ⟨p, _, e⟩ <;> rw [e]
  · exact .refl s
  · refine (post_watched (.ended reason p.total) p.number p.film s).trans ?_
    refine Watched.trans ?_ ((latch_watched .purchaseEnded _).trans (purchaseEnded_watched _ _))
    exact .of_eq rfl rfl rfl rfl rfl rfl

theorem endAll_watched (reason : EndReason) (s : State) : Watched s (endAll reason s) :=
  Watched.foldl _ (fun s n => endPurchase_watched n reason s) _ s

theorem beginRepetition_watched (n position k : Nat) (s : State) :
    Watched s (beginRepetition n position k s) := by
  rcases beginRepetition_cases n position k s with
    ⟨_, e⟩ | ⟨_, _, ⟨_, e⟩ | ⟨_, e⟩ | ⟨_, e⟩ | ⟨_, e⟩⟩ <;> rw [e]
  · exact .refl s
  · exact .of_eq rfl rfl rfl rfl rfl rfl
  · exact endPurchase_watched ..
  · exact endPurchase_watched ..
  · refine Watched.trans ?_ (post_watched ..)
    exact .of_eq rfl rfl rfl rfl rfl rfl

theorem meterPurchase_watched (n : Nat) (viewed : Bool) (s : State) :
    Watched s (meterPurchase n viewed s) := by
  rcases meterPurchase_cases n viewed s with e | ⟨_, e⟩ | ⟨_, _, e⟩ | ⟨_, e⟩ <;> rw [e]
  · exact .refl s
  · exact .of_eq rfl rfl rfl rfl rfl rfl
  · exact beginRepetition_watched ..
  · exact endPurchase_watched ..

theorem evalBillingDay_watched (s : State) : Watched s (evalBillingDay s) := by
  obtain ⟨_, _, e, _⟩ := evalBillingDay_ret s
  rw [e]
  exact .of_eq rfl rfl rfl rfl rfl rfl

theorem clearViewed_watched (s : State) : Watched s (clearViewed s) := .of_eq rfl rfl rfl rfl rfl rfl

theorem meterAll_watched (s0 s : State) : Watched s (meterAll s0 s) :=
  Watched.foldl (fun (s : State) (p : Purchase) => meterPurchase p.number (isViewed s0 p.film) s)
    (fun s p => meterPurchase_watched p.number _ s) s0.ret.purchases s

theorem meterSecond_watched (s : State) : Watched s (meterSecond s) := by
  unfold meterSecond
  split
  · refine (evalBillingDay_watched s).trans ?_
    dsimp only
    split
    · exact clearViewed_watched _
    · exact (meterAll_watched _ _).trans (clearViewed_watched _)
  · exact .refl s

theorem payMeter_watched (s : State) : Watched s (payMeter s) :=
  (paid_watched .meter s).trans (meterSecond_watched _)

/-! ### The Table Loader -/

theorem serviceCommitted_watched (s : State) : Watched s (serviceCommitted s) :=
  .of_eq rfl rfl rfl rfl rfl rfl

theorem commit_watched (t : Table) (s : State) : Watched s (commit t s) := by
  rcases commit_cases t s with ⟨_, e⟩ | ⟨_, _, _, _, rfl, ⟨_, e⟩ | ⟨_, e⟩⟩ <;> rw [e]
  · exact .refl s
  · exact (withMachine_watched ..).trans (latch_watched ..)
  · exact ((withMachine_watched ..).trans (latch_watched ..)).trans (serviceCommitted_watched _)

theorem decideCommit_watched (later : Bool) (t : Table) (s : State) :
    Watched s (decideCommit later t s) := by
  unfold decideCommit
  split
  · exact withMachine_watched ..
  · exact commit_watched ..

theorem commitIfDue_watched (t : Table) (s : State) : Watched s (commitIfDue t s) := by
  unfold commitIfDue
  split
  · exact commit_watched t s
  · exact .refl s

theorem commitsDue_watched (s : State) : Watched s (commitsDue s) :=
  (commitIfDue_watched .service s).trans (commitIfDue_watched .tariff _)

theorem activateIfReached_watched (t : Table) (s : State) : Watched s (activateIfReached t s) := by
  unfold activateIfReached
  split
  · exact commit_watched t s
  · exact .refl s

theorem loaderEvent_watched (s : State) : Watched s (loaderEvent s) :=
  (activateIfReached_watched .service s).trans (activateIfReached_watched .tariff _)

theorem execCheckCompletion_watched (t : Table) {s u : State} (h : execCheckCompletion t s = .next u) :
    Watched s u := by
  have decided (later : Bool) (m : TableMachine) :
      Watched s (decideCommit later t (usedChoice (withMachine t m s))) :=
    ((withMachine_watched ..).trans (usedChoice_watched _)).trans (decideCommit_watched ..)
  cases h
  dsimp only
  repeat' split
  all_goals first
    | exact .refl s
    | exact decided ..
    | exact withMachine_watched ..
    | exact (withMachine_watched ..).trans (latch_watched ..)

/-! ### The Tenancy Unit -/

/-- R106: the completion leaves the lock LOCKED and latches TENANCY CHANGED. -/
theorem completeTenancy_watched (s : State) : Watched s (completeTenancy s) :=
  .of_untouched (completeTenancy_untouched s) (s.alerts.gains_latch .tenancyChanged) (fun h => by cases h)

theorem testCompletion_watched (s : State) : Watched s (testCompletion s) := by
  rcases testCompletion_cases s with ⟨_, _, _, e⟩ | e <;> rw [e]
  · exact completeTenancy_watched s
  · exact .refl s

theorem tenancySecond_watched (s : State) : Watched s (tenancySecond s) := by
  unfold tenancySecond
  split
  · exact completeTenancy_watched s
  · exact .refl s

theorem startUpCompletion_watched (s : State) : Watched s (startUpCompletion s) := by
  unfold startUpCompletion
  split
  · exact completeTenancy_watched s
  · exact (endAll_watched _ s).trans (evalMembership_watched _)
  · exact evalMembership_watched s

/-! ### The consumers of the events -/

theorem takeSecond_watched (c : Consumer) (s : State) : Watched s (takeSecond c s) := by
  cases c with
  | lock => exact lockEvent_watched s
  | meter => exact meterSecond_watched s
  | loader => exact loaderEvent_watched s
  | tenancy => exact tenancySecond_watched s
  | keys => exact .refl s
  | gate => exact .refl s

theorem deliverSecond_watched (later : List Consumer) (c : Consumer) (s : State) :
    Watched s (deliverSecond later c s) := by
  unfold deliverSecond
  split
  · exact .of_eq rfl rfl rfl rfl rfl rfl
  · exact takeSecond_watched c s

theorem settle_watched (s : State) : Watched s (settle s) :=
  Watched.trans (t := { s with model := { s.model with due := [] } }) (.of_eq rfl rfl rfl rfl rfl rfl)
    (Watched.foldl _ (fun s c => takeSecond_watched c s) _ _)

theorem takeStep_watched (c : Consumer) (s : State) : Watched s (takeStep c s) := by
  cases c with
  | lock => exact windowEvent_watched s
  | meter => exact evalBillingDay_watched s
  | loader => exact loaderEvent_watched s
  | tenancy => exact .refl s
  | keys => exact .refl s
  | gate => exact .refl s

theorem takeClosing_watched (c : Consumer) (s : State) : Watched s (takeClosing c s) := by
  cases c with
  | lock => exact ((closeLock_watched s).trans (setFailures_watched 0 _)).trans (evalMembership_watched _)
  | meter => exact endAll_watched _ s
  | loader => exact .refl s
  | tenancy => exact .refl s
  | keys => exact flushKeys_watched _ s
  | gate => exact purge_watched s

theorem takeRecordChanged_watched (differs : Bool) (c : Consumer) (s : State) :
    Watched s (takeRecordChanged differs c s) := by
  cases c with
  | lock =>
    refine Watched.trans ?_ (evalMembership_watched _)
    split
    · exact (closeLock_watched s).trans (setFailures_watched 0 _)
    · exact .refl s
  | meter => exact .refl s
  | loader => exact .refl s
  | tenancy => exact .refl s
  | keys => exact flushKeys_watched _ s
  | gate => exact purge_watched s

/-- R41, R43: a second later building time is UNSET where it was. -/
theorem secondEvent_watched (s : State) : Watched s (secondEvent s) := by
  unfold secondEvent
  refine (settle_watched s).trans
    (Watched.trans ?_ (Watched.foldl _ (fun s c => deliverSecond_watched _ c s) _ _))
  exact .of_conditions (.refl _) .inl .inl Option.map_eq_none_iff.mp id .inl

/-- R45, R48: a time mark leaves building time SET. -/
theorem adoptTime_watched (t : BuildingTime) (s : State) : Watched s (adoptTime t s) := by
  unfold adoptTime
  split
  · exact .refl s
  · refine (settle_watched s).trans (Watched.trans ?_ (Watched.foldl _ (fun s c => takeStep_watched c s) _ _))
    exact .of_conditions (.refl _) .inl .inl (fun h => by cases h) id .inl

/-! ### The inputs and the media path -/

/-- R7: the flag of INSET SHED is set as shedding begins. -/
theorem evalShed_watched (s : State) : Watched s (evalShed s) := by
  refine .of_conditions (s.alerts.gains_latchIf ..) (fun shedding => ?_) .inl id id .inl
  have after : shedAfter s = .shedding := shedding
  cases before : s.merge.shed with
  | shedding => exact .inl rfl
  | normal => exact .inr (by simp [before, after])

theorem tookFeed_watched (s : State) : Watched s (tookFeed s) := by
  unfold tookFeed
  refine Watched.trans ?_ (evalShed_watched _)
  exact .of_eq rfl rfl rfl rfl rfl rfl

theorem tookLocal_watched (s : State) : Watched s (tookLocal s) := .of_eq rfl rfl rfl rfl rfl rfl

theorem offerFeed_watched (u : CarriageUnit) (s : State) : Watched s (offerFeed u s) := by
  unfold offerFeed
  split
  · refine Watched.trans ?_ (evalShed_watched _)
    exact .of_eq rfl rfl rfl rfl rfl rfl
  · exact latch_watched ..

theorem takeInsertByte_shed (byte : Byte) (m : InputMerge) : (takeInsertByte byte m).shed = m.shed := by
  unfold takeInsertByte
  repeat' split
  all_goals rfl

theorem checkSequence_watched (u : CarriageUnit) (s : State) : Watched s (checkSequence u s) :=
  .of_kept (s.alerts.gains_latchIf ..) rfl id rfl rfl rfl

theorem presentUnit_watched (u : CarriageUnit) (stamp : BitVec 24) (s : State) :
    Watched s (presentUnit u stamp s) :=
  .of_kept (s.alerts.gains_latchIf ..) rfl id rfl rfl rfl

theorem classifyMedia_watched (u : CarriageUnit) (stamp : BitVec 24) (s : State) :
    Watched s (classifyMedia u stamp s) := by
  have handedOn := (checkSequence_watched u s).trans (presentUnit_watched u stamp _)
  unfold classifyMedia
  dsimp only
  repeat' split
  all_goals first
    | exact .refl s
    | exact handedOn

/-! ### The owners of the units taken -/

theorem replaceActive_watched (old new : RoomRecord) (s : State) : Watched s (replaceActive old new s) := by
  unfold replaceActive
  refine Watched.trans ?_
    (Watched.foldl _ (fun s c => takeRecordChanged_watched (lockFieldsDiffer old new) c s) _ _)
  exact .of_eq rfl rfl rfl rfl rfl rfl

theorem takeActive_watched (r : RoomRecord) (s : State) : Watched s (takeActive r s) := by
  unfold takeActive
  split
  · split
    · exact replaceActive_watched ..
    · exact latch_watched ..
  · exact latch_watched ..

theorem beginClosing_watched (s : State) : Watched s (beginClosing s) := by
  unfold beginClosing
  refine Watched.trans (t := enterClosing (usedChoice s)) (.of_eq rfl rfl rfl rfl rfl rfl) ?_
  exact (Watched.foldl _ (fun s c => takeClosing_watched c s) _ _).trans (testCompletion_watched _)

theorem receive_watched (serial : Nat) (s : State) : Watched s (receive serial s) := by
  unfold receive
  split
  · refine Watched.trans (t := removeThrough serial s) ?_ (testCompletion_watched _)
    exact .of_kept (s.alerts.gains_latchIf ..) rfl id rfl rfl rfl
  · exact .refl s

theorem voidFilm_watched (film : Nat) (s : State) : Watched s (voidFilm film s) := by
  unfold voidFilm
  split
  · exact endPurchase_watched ..
  · exact .refl s

theorem takeEntry_watched (s : State) (e : KeyEntry) : Watched s (takeEntry s e) := by
  unfold takeEntry
  split
  · rcases placeEntry_cases e s with ⟨i, k, h⟩ | h | h <;> rw [h]
    · exact .of_eq rfl rfl rfl rfl rfl rfl
    · exact latch_watched ..
    · exact .refl s
  · exact .refl s

/-- R171: the flag of EMERGENCY is set as the override begins. -/
theorem showEmergency_watched (label : Nat) (s : State) : Watched s (showEmergency label s) := by
  refine .of_conditions (s.alerts.gains_latchIf ..) .inl .inl id id fun _ => ?_
  cases before : s.emergency with
  | some _ => exact .inl rfl
  | none => exact .inr (by simp [showEmergency, before])

theorem beginEmergency_watched (label : Nat) (s : State) : Watched s (beginEmergency label s) := by
  unfold beginEmergency
  split
  · exact latch_watched ..
  · split
    · exact .refl s
    · exact showEmergency_watched label s

/-- R172: the condition of EMERGENCY ends with the override. -/
theorem endEmergency_watched (s : State) : Watched s (endEmergency s) := by
  unfold endEmergency
  split
  · exact .refl s
  · exact .of_conditions (.refl _) .inl .inl id id (fun h => by cases h)

theorem selectLabel_watched (x : OutputId × Nat) (s : State) : Watched s (selectLabel x s).1 := by
  unfold selectLabel
  split
  · exact .refl s
  · split
    · exact .refl s
    · exact .of_eq rfl rfl rfl rfl rfl rfl

theorem wrongPin_watched (s : State) : Watched s (wrongPin s) := by
  unfold wrongPin
  split
  · exact (leaveUnlocked_watched s).trans (setFailures_watched ..)
  · split
    · exact setFailures_watched ..
    · exact (enterLockout_watched s).trans (setFailures_watched ..)
  · exact .refl s

theorem enterPin_watched (digits : Pin) (s : State) : Watched s (enterPin digits s).1 := by
  have opened (n : Nat) : Watched s (setFailures 0 (openSession n s)) :=
    .of_kept (.refl _) rfl (fun h => by cases h) rfl rfl rfl
  unfold enterPin
  repeat' split
  all_goals first
    | exact .refl s
    | exact opened _
    | exact wrongPin_watched s

theorem relockNow_watched (s : State) : Watched s (relockNow s) := by
  unfold relockNow
  split
  · exact leaveUnlocked_watched s
  · exact .refl s
  · exact .refl s

theorem acceptPurchase_watched (r : ServiceRow) (s : State) : Watched s (acceptPurchase r s) := by
  have added : Watched s (addPurchase (newPurchase s r) s) := .of_eq rfl rfl rfl rfl rfl rfl
  unfold acceptPurchase
  dsimp only
  split
  · exact added.trans (beginRepetition_watched ..)
  · exact added

theorem buyFilm_watched (label : Nat) (s : State) : Watched s (buyFilm label s).1 := by
  unfold buyFilm
  split
  · exact .refl s
  · split
    · exact .refl s
    · exact acceptPurchase_watched _ s

theorem buy_watched (label : Nat) (s : State) : Watched s (buy label s).1 := by
  unfold buy
  repeat' split
  all_goals first
    | exact .refl s
    | exact (evalBillingDay_watched s).trans (buyFilm_watched label _)

/-! ### The return port -/

theorem sampleReturn_watched (ready : Bool) (s : State) : Watched s (sampleReturn ready s) :=
  .of_eq rfl rfl rfl rfl rfl rfl

theorem beginResult_watched (s : State) : Watched s (beginResult s) := by
  unfold beginResult
  split
  · split
    · exact .of_eq rfl rfl rfl rfl rfl rfl
    · exact .refl s
  · exact .refl s

theorem endResult_watched (s : State) : Watched s (endResult s) := by
  unfold endResult
  split
  · split
    · exact .of_eq rfl rfl rfl rfl rfl rfl
    · exact .refl s
  · exact .refl s
  · exact .refl s

theorem beginBilling_watched (s : State) : Watched s (beginBilling s) := by
  unfold beginBilling
  split
  · split
    · exact .of_eq rfl rfl rfl rfl rfl rfl
    · exact .refl s
  · exact .refl s

theorem takeNotice_watched (serial : Nat) (s : State) : Watched s (takeNotice serial s) := by
  unfold takeNotice
  split
  · refine Watched.trans ?_ (testCompletion_watched _)
    exact .of_eq rfl rfl rfl rfl rfl rfl
  · exact .refl s

theorem endBilling_watched (s : State) : Watched s (endBilling s) := by
  unfold endBilling
  split
  · split
    · refine Watched.trans ?_ (takeNotice_watched ..)
      exact .of_eq rfl rfl rfl rfl rfl rfl
    · exact .refl s
  · exact .refl s
  · exact .refl s

theorem tick_watched (s : State) : Watched s (tick s) := by
  unfold tick
  split
  · exact .of_eq rfl rfl rfl rfl rfl rfl
  · exact .refl s

end Sys2Proof.Machine
end

section
/-!
The Alert Unit's own commands, the starts and the installation read, and then every command (O55).
-/
namespace Sys2Proof.Machine

/-! ### What every step keeps -/

/-- The flags of the conditions that hold are set in `t` where they are in `s`, and the levels and the mask
are in range in `t` where they are in `s`. -/
structure AlertsKept (s t : State) : Prop where
  conditions : ConditionsLatched s → ConditionsLatched t
  levels : LevelsKept s → LevelsKept t

theorem AlertsKept.refl (s : State) : AlertsKept s s := ⟨id, id⟩

theorem AlertsKept.trans {s t u : State} (h : AlertsKept s t) (k : AlertsKept t u) : AlertsKept s u :=
  ⟨k.conditions ∘ h.conditions, k.levels ∘ h.levels⟩

theorem Watched.kept {s t : State} (h : Watched s t) : AlertsKept s t where
  conditions hs src mem holds :=
    (h.begun src holds).elim (fun before => h.gains.latched src (hs src mem before)) id
  levels hs := by
    obtain ⟨fifteen, each, mask⟩ := hs
    exact ⟨h.gains.levels ▸ fifteen, h.gains.levels ▸ each, h.gains.mask ▸ mask⟩

/-- An operation of the other blocks. -/
theorem AlertsKept.of_eq {s t : State} (alerts : t.alerts = s.alerts) (shed : t.merge.shed = s.merge.shed)
    (lock : t.lock = s.lock) (building : t.time.building = s.time.building) (install : t.install = s.install)
    (emergency : t.emergency = s.emergency) : AlertsKept s t :=
  (Watched.of_eq alerts shed lock building install emergency).kept

/-! ### The Classifier and the parsers -/

theorem onFeed_kept (row : FeedRow) {act : CarriageUnit → State → State}
    (hact : ∀ u s, Watched s (act u s)) (s : State) : AlertsKept s (onFeed row act s) := by
  unfold onFeed
  split
  · split
    · exact (((commitsDue_watched s).trans (tookFeed_watched _)).trans (hact ..)).kept
    · exact .refl s
  · exact .refl s

theorem onDirective_kept {α : Type} (row : FeedRow) (read : List Byte → Option α) {act : α → State → State}
    (hact : ∀ x s, Watched s (act x s)) (s : State) : AlertsKept s (onDirective row read act s) := by
  refine onFeed_kept row (fun u s => ?_) s
  split
  · exact hact ..
  · exact latch_watched ..

theorem onLocal_kept (row : LocalRow) {act : CarriageUnit → State → State}
    (hact : ∀ u s, AlertsKept s (act u s)) (s : State) : AlertsKept s (onLocal row act s) := by
  unfold onLocal
  split
  · split
    · exact ((commitsDue_watched s).trans (tookLocal_watched _)).kept.trans (hact ..)
    · exact .refl s
  · exact .refl s

theorem pushResult_kept (r : Result) (s : State) : AlertsKept s (pushResult r s) :=
  .of_eq rfl rfl rfl rfl rfl rfl

/-- R25: the owner acts on the operands that the reader gives. -/
theorem onCommand_kept {α : Type} (kind : CommandKind) {read : List Byte → Option α} {act : α → State → Reply}
    (hact : ∀ payload x s, read payload = some x → AlertsKept s (act x s).1) (s : State) :
    AlertsKept s (onCommand kind read act s) := by
  refine onLocal_kept _ (fun u s => ?_) s
  split
  · rename_i operands
    exact (hact _ _ s operands).trans (pushResult_kept ..)
  · exact pushResult_kept ..

theorem onCommand_watched_kept {α : Type} (kind : CommandKind) (read : List Byte → Option α)
    {act : α → State → Reply} (hact : ∀ x s, Watched s (act x s).1) (s : State) :
    AlertsKept s (onCommand kind read act s) :=
  onCommand_kept kind (fun _ x s _ => (hact x s).kept) s

/-! ### The Alert Unit's commands -/

/-- R38: the operands of ALERT SETUP are in range. -/
theorem setUpAlerts_kept {payload : List Byte} {x : SetupOperands} (h : readAlertSetup payload = some x)
    (s : State) : AlertsKept s (setUpAlerts x s) where
  conditions hs := hs
  levels _ := by
    obtain ⟨-, -, mask, -, fifteen, each, -⟩ := (readAlertSetup_iff payload x).mp h
    exact ⟨by simp [setUpAlerts, fifteen], each, mask⟩

/-- R39: a named source is latched after the clear just where its condition holds; the others stand. -/
theorem clearedFlags_bit (s : State) (named : BitVec 16) (src : AlertSource) :
    (clearedFlags s named).getLsbD src.code =
      if named.getLsbD src.code then conditionHolds s src else s.alerts.latched.getLsbD src.code := by
  rw [clearedFlags, BitVec.getLsbD_or, BitVec.getLsbD_and, BitVec.getLsbD_and, BitVec.getLsbD_not,
    conditionSet_bit]
  cases named.getLsbD src.code <;> simp [src.code_lt]

theorem clearAlerts_kept (named : BitVec 16) (s : State) : AlertsKept s (clearAlerts named s) where
  conditions hs src mem holds := by
    have before : conditionHolds s src = true := by cases src <;> exact holds
    refine (clearedFlags_bit s named src).trans ?_
    split
    · exact before
    · exact hs src mem before
  levels hs := hs

/-! ### The starts and the installation read -/

theorem atStart_levelsKept : AlertUnit.atStart.levels.length = 15
    ∧ (∀ n ∈ AlertUnit.atStart.levels, 1 ≤ n ∧ n ≤ 6) ∧ AlertUnit.atStart.mask ≤ 7 := by decide

/-- R36, R40, R48: a start leaves TIME UNSET as the one condition that holds, and latches it. -/
theorem makeStart_kept (u s : State) : AlertsKept u (makeStart s) where
  conditions _ := (AlertsKept.of_eq (s := State.reset) rfl rfl rfl rfl rfl rfl).conditions
    reset_conditionsLatched
  levels _ := atStart_levelsKept

/-- R88: a level of the record outside 1 to 6 is replaced. -/
theorem readLevels_kept (bytes : List Byte) :
    (readLevels bytes).length = 15 ∧ ∀ n ∈ readLevels bytes, 1 ≤ n ∧ n ≤ 6 := by
  rw [readLevels_eq]
  refine ⟨by simp, fun n hn => ?_⟩
  obtain ⟨k, -, rfl⟩ := List.mem_map.mp hn
  split <;> omega

theorem installationOf_fault (bytes : List Byte) : (installationOf bytes).fault = !readPasses bytes := by
  unfold installationOf
  cases readPasses bytes <;> rfl

theorem readEnded_levels (memory : List Byte) (s : State) : (readEnded memory s).alerts.levels =
    if readPasses (memoryBytes memory) then readLevels (memoryBytes memory) else List.replicate 15 3 := rfl

/-- R90: INSTALLATION FAULT is latched where the read failed, and the levels of a read that passes are in
range. -/
theorem readEnded_kept (memory : List Byte) (s : State) : AlertsKept s (readEnded memory s) where
  conditions hs src mem holds := by
    have latched : (readEnded memory s).alerts.isLatched src
        = (s.alerts.latchIf (!readPasses (memoryBytes memory)) .installationFault).isLatched src := rfl
    rw [latched, AlertUnit.isLatched_latchIf]
    by_cases fault : src = .installationFault
    · subst fault
      have failed : (!readPasses (memoryBytes memory)) = true := (installationOf_fault _).symm.trans holds
      simp [failed]
    · have before : conditionHolds s src = true := by
        cases src <;> first | exact holds | exact absurd rfl fault
      rw [show s.alerts.isLatched src = true from hs src mem before, Bool.true_or]
  levels hs := by
    obtain ⟨-, -, mask⟩ := hs
    have inRange : (readEnded memory s).alerts.levels.length = 15
        ∧ ∀ n ∈ (readEnded memory s).alerts.levels, 1 ≤ n ∧ n ≤ 6 := by
      rw [readEnded_levels]
      split
      · exact readLevels_kept _
      · decide
    exact ⟨inRange.1, inRange.2, mask⟩

/-! ### Every command, every step -/

theorem exec_alertsKept (c : Instr) {s t : State} (h : exec c s = .next t) : AlertsKept s t := by
  cases c with
  | powerUp =>
    cases h
    dsimp only
    split
    · exact .refl s
    · exact makeStart_kept ..
  | resetHeldLow => cases h; exact .of_eq rfl rfl rfl rfl rfl rfl
  | resetRelease =>
    cases h
    dsimp only
    split
    · exact makeStart_kept ..
    · exact .of_eq rfl rfl rfl rfl rfl rfl
  | standbySupplyLoss =>
    cases h
    dsimp only
    split <;> exact .of_eq rfl rfl rfl rfl rfl rfl
  | mainSupplyLoss =>
    cases h
    dsimp only
    split <;> exact .of_eq rfl rfl rfl rfl rfl rfl
  | coldStartWritesEnd =>
    cases h
    split
    · exact .of_eq rfl rfl rfl rfl rfl rfl
    · exact .refl s
  | installationReadEnd memory =>
    cases h
    split
    · exact (readEnded_kept memory s).trans ((evalShed_watched _).trans (startUpCompletion_watched _)).kept
    · exact .refl s
  | feedUnitArrival bytes =>
    have unitless (i : FeedInterface) : Watched s { s with merge := { s.merge with feedIf := i } } :=
      .of_eq rfl rfl rfl rfl rfl rfl
    cases h
    split
    · split
      · exact ((unitless _).trans (offerFeed_watched ..)).kept
      · exact (unitless _).kept
    · exact .refl s
  | feedInterfaceDiscard why =>
    cases h
    split
    · exact .of_eq rfl rfl rfl rfl rfl rfl
    · exact .refl s
  | localInsertByte byte =>
    cases h
    split
    · exact .of_eq rfl (takeInsertByte_shed ..) rfl rfl rfl rfl
    · exact .refl s
  | mediaUnit =>
    cases h
    split
    · split
      · exact (((tookFeed_watched s).trans (classifyMedia_watched ..)).trans (commitsDue_watched _)).kept
      · exact .refl s
    · exact .refl s
  | discardedFeedUnit => cases h; exact onFeed_kept _ (fun _ s => .refl s) s
  | directiveIgnored => cases h; exact onFeed_kept _ (fun _ s => .refl s) s
  | timeMark =>
    cases h
    refine onFeed_kept _ (fun u s => ?_) s
    split
    · exact adoptTime_watched ..
    · exact latch_watched ..
  | keyUnit => cases h; exact onFeed_kept _ (fun u s => Watched.foldl _ takeEntry_watched _ s) s
  | tableOpen => cases h; exact onDirective_kept _ _ (fun _ _ => withMachine_watched ..) s
  | tableRows => cases h; exact onDirective_kept _ _ (fun _ _ => withMachine_watched ..) s
  | tableClose => cases h; exact onDirective_kept _ _ (fun _ _ => withMachine_watched ..) s
  | checkCompletion table => exact (execCheckCompletion_watched table h).kept
  | tableActivation table =>
    cases h
    split
    · exact ((usedChoice_watched s).trans (decideCommit_watched ..)).kept
    · exact .refl s
  | tableCommit table =>
    cases h
    split
    · exact (commitIfDue_watched ..).kept
    · exact .refl s
  | roomRecord =>
    cases h
    refine onDirective_kept _ _ (fun x s => ?_) s
    split
    · exact takeActive_watched ..
    · exact .of_eq rfl rfl rfl rfl rfl rfl
  | tenancyChange =>
    cases h
    refine onDirective_kept _ _ (fun x s => ?_) s
    split
    · exact .refl s
    · exact beginClosing_watched s
  | completionTimeout =>
    cases h
    split
    · exact ((paid_watched ..).trans (completeTenancy_watched _)).kept
    · exact .refl s
  | lockReset =>
    cases h
    exact onDirective_kept _ _ (fun _ s => (closeLock_watched s).trans (setFailures_watched ..)) s
  | purchaseVoid => cases h; exact onDirective_kept _ _ voidFilm_watched s
  | billingReceipt => cases h; exact onDirective_kept _ _ receive_watched s
  | billingPoll => cases h; exact onDirective_kept (act := poll) _ _ (fun _ _ => .of_eq rfl rfl rfl rfl rfl rfl) s
  | emergencyOn => cases h; exact onDirective_kept _ _ beginEmergency_watched s
  | emergencyOff => cases h; exact onDirective_kept _ _ (fun _ s => endEmergency_watched s) s
  | refusedUnit => cases h; exact onLocal_kept _ (fun _ _ => pushResult_kept ..) s
  | unknownCommand => cases h; exact onLocal_kept _ (fun _ _ => pushResult_kept ..) s
  | select => cases h; exact onCommand_watched_kept _ _ selectLabel_watched s
  | purchase => cases h; exact onCommand_watched_kept _ _ buy_watched s
  | pinEntry => cases h; exact onCommand_watched_kept _ _ enterPin_watched s
  | relock => cases h; exact onCommand_watched_kept _ _ (fun _ s => relockNow_watched s) s
  | query => cases h; exact onCommand_watched_kept _ _ (fun _ s => .refl s) s
  | alertSetup => cases h; exact onCommand_kept _ (fun _ _ s operands => setUpAlerts_kept operands s) s
  | alertClear => cases h; exact onCommand_kept _ (fun _ named s _ => clearAlerts_kept named s) s
  | secondEvent =>
    cases h
    split
    · exact (secondEvent_watched s).kept
    · exact .refl s
  | sessionExpiry =>
    cases h
    split
    · exact ((paid_watched .lock s).trans (lockEvent_watched _)).kept
    · exact .refl s
  | lockoutExpiry =>
    cases h
    split
    · exact ((paid_watched .lock s).trans (lockEvent_watched _)).kept
    · exact .refl s
  | graceUsedUp =>
    cases h
    split
    · exact (payMeter_watched s).kept
    · exact .refl s
  | graceLapse =>
    cases h
    split
    · exact (payMeter_watched s).kept
    · exact .refl s
  | stepRemainingEnd =>
    cases h
    split
    · exact (payMeter_watched s).kept
    · exact .refl s
  | resultUnitBegin ready => cases h; exact ((sampleReturn_watched ready s).trans (beginResult_watched _)).kept
  | resultUnitEnd ready => cases h; exact ((sampleReturn_watched ready s).trans (endResult_watched _)).kept
  | billingUnitBegin ready =>
    cases h
    exact ((sampleReturn_watched ready s).trans (beginBilling_watched _)).kept
  | billingUnitEnd ready => cases h; exact ((sampleReturn_watched ready s).trans (endBilling_watched _)).kept
  | outputUnitBegin o ready => cases h; exact .of_eq rfl rfl rfl rfl rfl rfl
  | outputUnitEnd o ready => cases h; exact .of_eq rfl rfl rfl rfl rfl rfl

theorem step_alertsKept {s t : State} (h : step s = .next t) : AlertsKept s t := by
  unfold step at h
  split at h
  · cases h
    exact (tick_watched s).kept
  · rename_i c _ _
    refine AlertsKept.trans ?_ (exec_alertsKept c h)
    exact .of_eq rfl rfl rfl rfl rfl rfl

end Sys2Proof.Machine

/-- Settles O55: a condition that begins is latched with its event, ALERT CLEAR leaves the flags of those
that hold, and the levels come from readers that keep them in range. -/
theorem stepKeepsConditionsLatched : Obligations.StepKeepsConditionsLatched := by
  intro s t h
  obtain ⟨conditions, levels⟩ := Sys2Proof.Machine.step_alertsKept h
  exact ⟨conditions, levels⟩
end

section
/-!
The conditions of the level sources, the levels of the sources and the alert line (O50, O51).
-/
namespace Sys2Proof.Machine

theorem isLockout_iff (l : LockState) : l.isLockout = true ↔ ∃ e, l = .lockout e := by
  cases l <;> simp [LockState.isLockout]

/-- R36: the conditions of the five level sources; an edge source has none. -/
theorem conditionHolds_iff (s : State) (src : AlertSource) : conditionHolds s src = true ↔
    (src = .insetShed ∧ s.merge.shed = .shedding)
    ∨ (src = .lockout ∧ ∃ e, s.lock.state = .lockout e)
    ∨ (src = .timeUnset ∧ s.time.building = none)
    ∨ (src = .installationFault ∧ s.install.fault = true)
    ∨ (src = .emergency ∧ s.emergency ≠ none) := by
  cases src with
  | insetShed => simp [conditionHolds]
  | lockout => simp [conditionHolds, isLockout_iff]
  | timeUnset => simp [conditionHolds]
  | installationFault => simp [conditionHolds]
  | emergency => simp [conditionHolds, Option.isSome_iff_ne_none]
  | _ => simp [conditionHolds]

/-! ### The alert line (R37) -/

theorem AlertSource.mem_all (src : AlertSource) : src ∈ AlertSource.all := by
  cases src <;> decide

theorem alertLine_iff (s : State) : alertLine s = true ↔ ∃ src, s.alerts.isLatched src = true
    ∧ (s.alerts.mask < s.alerts.level src ∨ s.alerts.level src = 7) := by
  simp only [alertLine, AlertUnit.line, List.any_eq_true, AlertSource.mem_all, true_and, Bool.and_eq_true,
    Bool.or_eq_true, decide_eq_true_eq, beq_iff_eq]

theorem AlertUnit.level_emergency (a : AlertUnit) : a.level .emergency = 7 := rfl

/-- R35: the level of an adjustable source is the one held at its code. -/
theorem AlertUnit.level_of_adjustable (a : AlertUnit) {src : AlertSource} (h : src ≠ .emergency) :
    a.level src = a.levels.getD src.code 3 := if_neg h

/-- R35: with levels in range the level of every adjustable source is. -/
theorem AlertUnit.level_inRange {a : AlertUnit} (levels : ∀ n ∈ a.levels, 1 ≤ n ∧ n ≤ 6) {src : AlertSource}
    (h : src ≠ .emergency) : 1 ≤ a.level src ∧ a.level src ≤ 6 := by
  rw [a.level_of_adjustable h, List.getD_eq_getElem?_getD]
  cases held : a.levels[src.code]? with
  | none => decide
  | some n => exact levels n (List.mem_of_getElem? held)

/-- R37: at mask level 7 only the fixed level of EMERGENCY counts. -/
theorem alertLine_of_fullMask {s : State} (levels : ∀ n ∈ s.alerts.levels, 1 ≤ n ∧ n ≤ 6)
    (mask : s.alerts.mask = 7) : alertLine s = true ↔ s.alerts.isLatched .emergency = true := by
  rw [alertLine_iff]
  constructor
  · rintro ⟨src, latched, high⟩
    by_cases emergency : src = .emergency
    · exact emergency ▸ latched
    · have := AlertUnit.level_inRange levels emergency
      omega
  · exact fun latched => ⟨.emergency, latched, .inr s.alerts.level_emergency⟩

/-- R37: at mask level 0 every level counts. -/
theorem alertLine_of_noMask {s : State} (levels : ∀ n ∈ s.alerts.levels, 1 ≤ n ∧ n ≤ 6)
    (mask : s.alerts.mask = 0) : alertLine s = true ↔ ∃ src, s.alerts.isLatched src = true := by
  rw [alertLine_iff]
  refine exists_congr fun src => and_iff_left ?_
  by_cases emergency : src = .emergency
  · exact .inr (emergency ▸ s.alerts.level_emergency)
  · have := AlertUnit.level_inRange levels emergency
    omega

end Sys2Proof.Machine

open Sys2Proof.Machine in
/-- Settles O50: the owners' acts on the operands read, and the flags after a clear one by one. -/
theorem alertCommandsTakeEffectWhole : Obligations.AlertCommandsTakeEffectWhole := by
  refine ⟨fun s q => ⟨fun x taken operands => ?setUp, fun named taken operands => ?clear⟩, conditionHolds_iff⟩
  case setUp => exact congrArg _ (onCommand_of_taken taken operands _)
  case clear =>
    exact ⟨clearedFlags (afterLocal s) named, congrArg _ (onCommand_of_taken taken operands _),
      clearedFlags_bit (afterLocal s) named⟩

open Sys2Proof.Machine in
/-- Settles O51: the line by the sources' levels, which are in range where those held are. -/
theorem alertLineFollowsTheFlags : Obligations.AlertLineFollowsTheFlags := by
  refine fun s => ⟨alertLine_iff s, s.alerts.level_emergency, fun src adjustable held => ?level,
    fun levels => ⟨alertLine_of_fullMask levels, alertLine_of_noMask levels⟩⟩
  case level =>
    rw [s.alerts.level_of_adjustable adjustable, List.getD_eq_getElem _ _ held, List.getElem?_eq_getElem held]
end

section
/-!
The return port: what begins and ends a unit, what holds, the bytes and the payloads (O46).
-/
namespace Sys2Proof.Machine

/-! ### The arbiter (R33) -/

theorem portFree_sampleReturn (ready : Bool) (s : State) :
    portFree (sampleReturn ready s) = (live s && ready && s.port.inProgress.isNone) := rfl

theorem portFree_of_held (s : State) : portFree (sampleReturn false s) = false := by
  rw [portFree_sampleReturn, Bool.and_false, Bool.false_and]

theorem portFree_of_busy {s : State} (h : s.port.inProgress ≠ none) (ready : Bool) :
    portFree (sampleReturn ready s) = false := by
  rw [portFree_sampleReturn, Option.isNone_eq_false_iff.mpr (Option.isSome_iff_ne_none.mpr h), Bool.and_false]

theorem portFree_of_idle {s : State} (hlive : live s = true) (h : s.port.inProgress = none) :
    portFree (sampleReturn true s) = true := by
  simp [portFree_sampleReturn, hlive, h]

/-! ### Result units -/

theorem beginResult_of_free {s : State} {r : Result} {rest : List Result} (free : portFree s = true)
    (waiting : s.results = r :: rest) : beginResult s =
      { s with
        port := { s.port with
          resultSeq := s.port.resultSeq + 1
          inProgress := some
            { kind := .result
              bytes := (returnUnit 4093 s.port.resultSeq (resultPayload r)).bytes
              sent := 0 } } } := by
  simp [beginResult, waiting, free]

theorem beginResult_of_none {s : State} (h : s.results = [] ∨ portFree s = false) : beginResult s = s := by
  unfold beginResult
  rcases h with h | h
  · rw [h]
  · split <;> simp [h]

theorem endResult_of_result {s : State} (hlive : live s = true) (ready : s.port.ready = true)
    (kind : kindInProgress s = some .result) : endResult s =
      { s with port := { s.port with inProgress := none }, results := s.results.tail } := by
  simp [endResult, kind, hlive, ready]

theorem endResult_of_none {s : State} (h : kindInProgress s ≠ some .result ∨ s.port.ready = false) :
    endResult s = s := by
  unfold endResult
  split
  · rename_i kind
    exact if_neg (by simp [h.resolve_left fun other => other kind])
  · rfl
  · rfl

/-! ### Billing units -/

theorem offeredRecord_eq_find? {s : State} {serial : Nat} (h : s.offer = some serial) :
    offeredRecord s = s.ret.records.find? (fun r => r.serial == serial) := by
  rw [offeredRecord, h, Option.bind_some]

/-- R151: the offer position names no record of the queue. -/
theorem offeredRecord_of_absent {s : State} (h : s.offer = none
    ∨ ∃ serial, s.offer = some serial ∧ ∀ x ∈ s.ret.records, x.serial ≠ serial) : offeredRecord s = none := by
  rcases h with h | ⟨serial, h, absent⟩
  · rw [offeredRecord, h, Option.bind_none]
  · rw [offeredRecord_eq_find? h]
    simpa using absent

theorem beginBilling_of_free {s : State} {r : BillingRecord} (free : portFree s = true)
    (empty : s.results = []) (offered : offeredRecord s = some r) : beginBilling s =
      { s with
        port := { s.port with
          billingSeq := s.port.billingSeq + 1
          inProgress := some
            { kind := .billing r.serial
              bytes := (returnUnit 4092 s.port.billingSeq (billingPayload r)).bytes
              sent := 0 } } } := by
  simp [beginBilling, offered, free, empty]

theorem beginBilling_of_none {s : State}
    (h : s.results ≠ [] ∨ portFree s = false ∨ offeredRecord s = none) : beginBilling s = s := by
  unfold beginBilling
  rcases h with h | h | h
  · split <;> simp [h]
  · split <;> simp [h]
  · rw [h]

theorem hasSerial_iff (records : List BillingRecord) (serial : Nat) :
    hasSerial records serial = true ↔ ∃ x ∈ records, x.serial = serial := by
  simp [hasSerial]

/-- R153: the notice of a record in the queue marks it and moves the position past it. -/
theorem takeNotice_of_mem {s : State} {serial : Nat} {x : BillingRecord} (mem : x ∈ s.ret.records)
    (hx : x.serial = serial) : takeNotice serial s = testCompletion
      { s with
        ret := { s.ret with records := markOffered serial s.ret.records }
        offer := offerAfterNotice serial s.ret.records s.offer } :=
  if_pos ((hasSerial_iff ..).mpr ⟨x, mem, hx⟩)

theorem takeNotice_of_absent {s : State} {serial : Nat} (absent : ∀ x ∈ s.ret.records, x.serial ≠ serial) :
    takeNotice serial s = s :=
  if_neg fun h => ((hasSerial_iff ..).mp h).elim fun x hx => absent x hx.1 hx.2

theorem endBilling_of_billing {s : State} {serial : Nat} (hlive : live s = true) (ready : s.port.ready = true)
    (kind : kindInProgress s = some (.billing serial)) : endBilling s =
      takeNotice serial { s with port := { s.port with inProgress := none } } := by
  simp [endBilling, kind, hlive, ready]

theorem endBilling_of_none {s : State}
    (h : (∀ serial, kindInProgress s ≠ some (.billing serial)) ∨ s.port.ready = false) : endBilling s = s := by
  unfold endBilling
  split
  · rename_i serial kind
    exact if_neg (by simp [h.resolve_left fun other => other serial kind])
  · rfl
  · rfl

/-! ### The bytes at the port (R32) -/

theorem returnByte_eq (s : State) : returnByte s = s.port.inProgress.bind fun u =>
    (u.bytes[u.sent]?).map fun b => { byte := b, unitStart := decide (u.sent = 0) } := by
  simp only [returnByte, Sending.atPort_eq]

/-- R32: the port is at the beginning of a unit. -/
def AtUnitStart (s : State) : Prop :=
  ∃ (u : CarriageUnit) (kind : ReturnKind), s.port.inProgress = some { kind := kind, bytes := u.bytes, sent := 0 }

theorem AtUnitStart.returnByte_eq {s : State} (h : AtUnitStart s) :
    returnByte s = some { byte := 0xB5, unitStart := true } := by
  obtain ⟨u, kind, sending⟩ := h
  rw [returnByte, sending]
  rfl

theorem beginResult_begun (s : State) : beginResult s = s ∨ AtUnitStart (beginResult s) := by
  unfold beginResult
  split
  · split
    · exact .inr ⟨_, _, rfl⟩
    · exact .inl rfl
  · exact .inl rfl

theorem beginBilling_begun (s : State) : beginBilling s = s ∨ AtUnitStart (beginBilling s) := by
  unfold beginBilling
  split
  · split
    · exact .inr ⟨_, _, rfl⟩
    · exact .inl rfl
  · exact .inl rfl

/-! ### The payloads (R149, R152, §11.3) -/

theorem resultPayload_eq (r : Result) : resultPayload r =
    [r.tag, r.kind, r.code.code, BitVec.ofNat 8 r.body.length] ++ r.body := by
  simp [resultPayload, beBytes]

theorem billingPayload_eq (r : BillingRecord) : billingPayload r = fieldBytes
    [(2, r.serial), (1, r.entry.kind), (1, bit r.timeUnknown + 2 * bit r.offered), (2, r.room),
      (2, r.tenancyId), (1, r.purchase), (1, r.entry.reason), (2, r.film), (1, r.entry.position),
      (1, r.entry.repetition), (4, r.entry.amount), (4, r.entry.total), (2, r.day), (4, r.second)] := by
  simp only [billingPayload, fieldBytes_cons, fieldBytes_nil, List.append_assoc, List.append_nil]

end Sys2Proof.Machine

open Sys2Proof.Machine in
/-- Settles O46: the begins and ends by the line, the unit in progress and what waits; then the bytes and
the payloads. -/
theorem returnPortSendsUnits : Obligations.ReturnPortSendsUnits := by
  refine ⟨fun s hlive => ?commands, returnByte_eq, fun s t idle begun run => ?unitStart, fun _ _ _ => rfl,
    resultPayload_eq, fun r => ?billing, by decide, by decide⟩
  case commands =>
    have kind {u : ReturnUnit} (h : s.port.inProgress = some u) :
        kindInProgress (sampleReturn true s) = some u.kind := by
      show s.port.inProgress.map _ = _
      rw [h, Option.map_some]
    refine ⟨?resultBegun, ?noResultBegun, ?billingBegun, ?noBillingBegun, ?resultEnded, ?notice,
      ?noResultEnded, ?noBillingEnded, ?held⟩
    case resultBegun =>
      exact fun r rest waiting idle =>
        congrArg _ (beginResult_of_free (portFree_of_idle hlive idle) waiting)
    case noResultBegun =>
      exact fun h => congrArg _ (beginResult_of_none (h.imp_right fun busy => portFree_of_busy busy true))
    case billingBegun =>
      intro r serial empty idle offer found
      have offered : offeredRecord s = some r := (offeredRecord_eq_find? offer).trans found
      exact congrArg _ (beginBilling_of_free (portFree_of_idle hlive idle) empty offered)
    case noBillingBegun =>
      exact fun h => congrArg _ (beginBilling_of_none (h.imp_right (Or.imp
        (fun busy => portFree_of_busy busy true) fun absent => offeredRecord_of_absent absent)))
    case resultEnded =>
      intro u sending result
      exact congrArg _ (endResult_of_result (s := sampleReturn true s) hlive rfl (result ▸ kind sending))
    case notice =>
      intro u serial sending billing freed
      have ended : exec (.billingUnitEnd true) s = .next (takeNotice serial freed) :=
        congrArg _ (endBilling_of_billing (s := sampleReturn true s) hlive rfl (billing ▸ kind sending))
      rw [ended]
      exact ⟨fun x mem hx => congrArg _ (takeNotice_of_mem mem hx),
        fun absent => congrArg _ (takeNotice_of_absent absent)⟩
    case noResultEnded =>
      refine fun other => congrArg _ (endResult_of_none (.inl fun h => ?_))
      obtain ⟨u, sending, result⟩ := Option.map_eq_some_iff.mp h
      exact other u sending result
    case noBillingEnded =>
      refine fun other => congrArg _ (endBilling_of_none (.inl fun serial h => ?_))
      obtain ⟨u, sending, billing⟩ := Option.map_eq_some_iff.mp h
      exact other u serial sending billing
    case held =>
      have busy := portFree_of_held s
      exact ⟨congrArg _ (beginResult_of_none (.inr busy)), congrArg _ (endResult_of_none (.inr rfl)),
        congrArg _ (beginBilling_of_none (.inr (.inl busy))), congrArg _ (endBilling_of_none (.inr rfl))⟩
  case unitStart =>
    have started {act : State → State} (h : act (sampleReturn true s) = sampleReturn true s
        ∨ AtUnitStart (act (sampleReturn true s)))
        (run : Host.Outcome.next (act (sampleReturn true s)) = (.next t : Host.Outcome State Fault Refusal)) :
        returnByte t = some { byte := 0xB5, unitStart := true } := by
      obtain rfl := Host.Outcome.next.inj run
      refine (h.resolve_left fun unchanged => begun ?_).returnByte_eq
      rw [unchanged]
      exact idle
    exact run.elim (started (beginResult_begun _)) (started (beginBilling_begun _))
  case billing =>
    rw [billingPayload_eq]
    intro flags row
    refine ⟨fun amount position repetition charge => ?_, fun reason total ended => ?_⟩
    · rw [charge]; rfl
    · rw [ended]; rfl
end

section
/-!
The readers of the directives, and the form faults (O13).
-/
namespace Sys2Proof.Machine

/-! ### A form fault (R23) -/

theorem onDirective_of_formFault {α : Type} {row : FeedRow} {read : List Byte → Option α} {s : State}
    {q : StampedUnit} (h : FeedTakes s row q) (fault : read q.unit.payload = none)
    (act : α → State → State) : onDirective row read act s = latch .directiveFault (afterFeed s) := by
  rw [onDirective, onFeed_of_taken h]
  simp only [fault]

/-- R44: a time mark with a second of day out of range, or with bytes 6 and 7 not both 0. -/
theorem readTimeMark_of_malformed {payload : List Byte}
    (h : 86399 < field payload 2 4 ∨ byteAt payload 6 ≠ 0 ∨ byteAt payload 7 ≠ 0) :
    readTimeMark payload = none := by
  refine if_neg fun ok => ?_
  simp only [Bool.and_eq_true, decide_eq_true_eq, mbz_succ, mbz_zero, and_true] at ok
  obtain ⟨second, b6, b7⟩ := ok
  rcases h with late | set | set
  · omega
  · exact set (byte_eq_of_toNat b6)
  · exact set (byte_eq_of_toNat b7)

theorem exec_timeMark_of_malformed {s : State} {q : StampedUnit} (taken : FeedTakes s .timeMark q)
    (h : readTimeMark q.unit.payload = none) :
    exec .timeMark s = .next (latch .directiveFault (afterFeed s)) := by
  refine congrArg Host.Outcome.next ((onFeed_of_taken taken _).trans ?_)
  simp only [h]

/-! ### The header and the body of a directive (R23, §11.3) -/

theorem byteAt_directiveBody (payload : List Byte) (i : Nat) :
    byteAt (directiveBody payload) i = byteAt payload (8 + i) := byteAt_drop 8 i payload

theorem mbz_directiveBody (payload : List Byte) (i n : Nat) :
    mbz (directiveBody payload) i n = mbz payload (8 + i) n := by
  rw [mbz, directiveBody, List.drop_drop]
  rfl

theorem field_directiveBody (payload : List Byte) (i n : Nat) :
    field (directiveBody payload) i n = field payload (8 + i) n := by
  rw [field, directiveBody, List.drop_drop]
  rfl

/-- R23: the header of a directive whose body is `length` bytes long. -/
def DirectiveHeader (payload : List Byte) (length : Nat) : Prop :=
  (byteAt payload 4).toNat = length ∧ (byteAt payload 5).toNat = 0 ∧ (byteAt payload 6).toNat = 0
  ∧ (byteAt payload 7).toNat = 0 ∧ ((byteAt payload 1).toNat = 1 → field payload 2 2 = 0)

theorem directiveHeaderOk_iff {length : Nat} (fits : length ≤ 116) (payload : List Byte) :
    directiveHeaderOk payload length = true ↔ DirectiveHeader payload length := by
  have broadcast : (!(byteAt payload 1 == 1 && field payload 2 2 != 0)) = true
      ↔ ((byteAt payload 1).toNat = 1 → field payload 2 2 = 0) := by
    simp [byte_eq_iff, imp_iff_not_or]
  rw [directiveHeaderOk, Bool.and_eq_true, Bool.and_eq_true, Bool.and_eq_true, broadcast, mbz_succ, mbz_succ,
    mbz_succ, mbz_zero, beq_iff_eq, decide_eq_true_eq, and_iff_left fits, DirectiveHeader]
  constructor
  · rintro ⟨⟨⟨b5, b6, b7, -⟩, target⟩, b4⟩
    exact ⟨b4, b5, b6, b7, target⟩
  · rintro ⟨b4, b5, b6, b7, target⟩
    exact ⟨⟨⟨b5, b6, b7, rfl⟩, target⟩, b4⟩

theorem byte_eq_one_iff (b : Byte) : b = 1 ↔ b.toNat = 1 := byte_eq_iff b 1

theorem byte_eq_zero_iff (b : Byte) : b = 0 ↔ b.toNat = 0 := byte_eq_iff b 0

/-! ### The codes of the bodies (§11.4) -/

theorem tableOf_iff (code : Byte) (t : Table) :
    tableOf code = some t ↔ code.toNat = if t = .service then 1 else 2 := by
  unfold tableOf
  split
  · rename_i h; subst h; cases t <;> decide
  · split
    · rename_i h; subst h; cases t <;> decide
    · rename_i h1 h2
      rw [byte_eq_iff] at h1 h2
      cases t <;> simpa

theorem slotOf_iff (code : Byte) (active : Bool) :
    slotOf code = some active ↔ code.toNat = if active then 1 else 2 := by
  unfold slotOf
  split
  · rename_i h; subst h; cases active <;> decide
  · split
    · rename_i h; subst h; cases active <;> decide
    · rename_i h1 h2
      rw [byte_eq_iff] at h1 h2
      cases active <;> simpa

theorem lockModeOf_iff (code : Byte) (mode : LockMode) :
    lockModeOf code = some mode ↔ code.toNat = mode.code := by
  unfold lockModeOf
  split
  · rename_i h; subst h; cases mode <;> decide
  · split
    · rename_i h; subst h; cases mode <;> decide
    · split
      · rename_i h; subst h; cases mode <;> decide
      · rename_i h1 h2 h3
        rw [byte_eq_iff] at h1 h2 h3
        cases mode <;> simpa [LockMode.code]

theorem imageSize_eq (t : Table) : imageSize t = if t = .service then 16 else 12 := by cases t <;> rfl

theorem maxImages_eq (t : Table) : maxImages t = if t = .service then 6 else 9 := by cases t <;> rfl

theorem tableSize_eq (t : Table) : tableSize t = if t = .service then 256 else 32 := by cases t <;> rfl

/-! ### The tables' directives (R56 to R59) -/

theorem readTableOpen_iff (payload : List Byte) (t : Table) (g : Nat) : readTableOpen payload = some (t, g) ↔
    DirectiveHeader payload 4 ∧ (byteAt payload 8).toNat = (if t = .service then 1 else 2)
    ∧ (byteAt payload 9).toNat = 0 ∧ g = field payload 10 2 ∧ g ≠ 0 := by
  rw [← tableOf_iff]
  simp only [readTableOpen, byteAt_directiveBody, field_directiveBody, mbz_directiveBody, Nat.add_zero,
    Nat.reduceAdd]
  cases tableOf (byteAt payload 8) with
  | none => simp
  | some t' =>
    simp only [Option.ite_none_right_eq_some, Bool.and_eq_true, directiveHeaderOk_iff (show 4 ≤ 116 by decide),
      mbz_succ, mbz_zero, and_true, bne_iff_ne, Option.some.injEq, Prod.mk.injEq]
    constructor
    · rintro ⟨⟨⟨header, spare⟩, nonzero⟩, rfl, rfl⟩
      exact ⟨header, rfl, spare, rfl, nonzero⟩
    · rintro ⟨header, rfl, spare, rfl, nonzero⟩
      exact ⟨⟨⟨header, spare⟩, nonzero⟩, rfl, rfl⟩

/-- R58: the longest body of a TABLE ROWS fits the payload. -/
theorem rowsBody_fits {t : Table} {count : Nat} (h : count ≤ maxImages t) : 6 + imageSize t * count ≤ 116 := by
  cases t <;> simp only [imageSize, maxImages] at h ⊢ <;> omega

theorem readTableRows_iff (payload : List Byte) (x : RowsOperands) : readTableRows payload = some x ↔
    DirectiveHeader payload (6 + imageSize x.table * (byteAt payload 12).toNat)
    ∧ (byteAt payload 8).toNat = (if x.table = .service then 1 else 2)
    ∧ x.first = (byteAt payload 9).toNat ∧ x.generation = field payload 10 2 ∧ x.generation ≠ 0
    ∧ (byteAt payload 13).toNat = 0 ∧ 1 ≤ (byteAt payload 12).toNat
    ∧ (byteAt payload 12).toNat ≤ maxImages x.table
    ∧ x.first + (byteAt payload 12).toNat ≤ tableSize x.table
    ∧ x.rows = (List.range (byteAt payload 12).toNat).map fun i =>
        (payload.drop (14 + imageSize x.table * i)).take (imageSize x.table) := by
  have split (size count : Nat) : images size count ((directiveBody payload).drop 6) =
      (List.range count).map fun i => (payload.drop (14 + size * i)).take size := by
    simp only [images_eq_map, directiveBody, List.drop_drop, Nat.reduceAdd]
  rw [← tableOf_iff]
  simp only [readTableRows, byteAt_directiveBody, field_directiveBody, mbz_directiveBody, Nat.add_zero,
    Nat.reduceAdd, split]
  cases tableOf (byteAt payload 8) with
  | none => simp
  | some t =>
    simp only [Option.ite_none_right_eq_some, Bool.and_eq_true, decide_eq_true_eq, mbz_succ, mbz_zero, and_true,
      bne_iff_ne, Option.some.injEq]
    constructor
    · rintro ⟨⟨⟨⟨⟨⟨low, high⟩, header⟩, spare⟩, nonzero⟩, fits⟩, rfl⟩
      exact ⟨(directiveHeaderOk_iff (rowsBody_fits high) payload).mp header, rfl, rfl, rfl, nonzero, spare, low,
        high, fits, rfl⟩
    · obtain ⟨table, generation, first, rows⟩ := x
      dsimp only
      rintro ⟨header, rfl, rfl, rfl, nonzero, spare, low, high, fits, rfl⟩
      exact ⟨⟨⟨⟨⟨⟨low, high⟩, (directiveHeaderOk_iff (rowsBody_fits high) payload).mpr header⟩, spare⟩,
        nonzero⟩, fits⟩, rfl⟩

/-- R59: the activation time of a TABLE CLOSE, or none. -/
def ClosesWith (payload : List Byte) (activation : Option BuildingTime) : Prop :=
  ((byteAt payload 9).toNat = 1 ∧ field payload 18 4 ≤ 86399
    ∧ activation = some { day := BitVec.ofNat 16 (field payload 16 2), second := field payload 18 4 })
  ∨ ((byteAt payload 9).toNat = 0 ∧ field payload 16 2 = 0 ∧ field payload 18 4 = 0 ∧ activation = none)

theorem readTableClose_iff (payload : List Byte) (x : CloseOperands) : readTableClose payload = some x ↔
    DirectiveHeader payload 16 ∧ (byteAt payload 8).toNat = (if x.table = .service then 1 else 2)
    ∧ x.generation = field payload 10 2 ∧ x.generation ≠ 0 ∧ x.expected = field payload 12 4
    ∧ x.expected < 2 ^ 31 ∧ (byteAt payload 22).toNat = 0 ∧ (byteAt payload 23).toNat = 0
    ∧ ClosesWith payload x.activation := by
  rw [← tableOf_iff]
  simp only [readTableClose, byteAt_directiveBody, field_directiveBody, mbz_directiveBody, Nat.add_zero,
    Nat.reduceAdd]
  cases tableOf (byteAt payload 8) with
  | none => simp
  | some t =>
    obtain ⟨table, generation, expected, activation⟩ := x
    simp only [Option.ite_none_right_eq_some, Bool.and_eq_true, directiveHeaderOk_iff (show 16 ≤ 116 by decide),
      decide_eq_true_eq, beq_iff_eq, mbz_succ, mbz_zero, and_true, bne_iff_ne, Option.some.injEq,
      byte_eq_one_iff, byte_eq_zero_iff]
    by_cases timed : (byteAt payload 9).toNat = 1
    · rw [if_pos timed]
      constructor
      · rintro ⟨⟨⟨⟨⟨header, s14, s15⟩, nonzero⟩, small⟩, inDay⟩, read⟩
        cases read
        exact ⟨header, rfl, rfl, nonzero, rfl, small, s14, s15, .inl ⟨timed, inDay, rfl⟩⟩
      · rintro ⟨header, rfl, rfl, nonzero, rfl, small, s14, s15, ⟨-, inDay, rfl⟩ | ⟨untimed, -⟩⟩
        · exact ⟨⟨⟨⟨⟨header, s14, s15⟩, nonzero⟩, small⟩, inDay⟩, rfl⟩
        · omega
    · rw [if_neg timed, Option.ite_none_right_eq_some]
      constructor
      · rintro ⟨⟨⟨⟨⟨header, s14, s15⟩, nonzero⟩, small⟩, -⟩, untimed, read⟩
        cases read
        obtain ⟨⟨b9, day⟩, second⟩ := untimed
        exact ⟨header, rfl, rfl, nonzero, rfl, small, s14, s15, .inr ⟨b9, day, second, rfl⟩⟩
      · rintro ⟨header, rfl, rfl, nonzero, rfl, small, s14, s15, ⟨b9, -⟩ | ⟨b9, day, second, rfl⟩⟩
        · exact absurd b9 timed
        · exact ⟨⟨⟨⟨⟨header, s14, s15⟩, nonzero⟩, small⟩, by omega⟩, by simp [b9, day, second], rfl⟩

/-! ### The room record (R98) -/

/-- R98: the PIN of a room record, or none. -/
def PinGiven (payload : List Byte) (pin : Option Pin) : Prop :=
  ((byteAt payload 18).toNat = 1 ∧ (byteAt payload 19).toNat ≤ 9 ∧ (byteAt payload 20).toNat ≤ 9
    ∧ (byteAt payload 21).toNat ≤ 9 ∧ (byteAt payload 22).toNat ≤ 9
    ∧ pin = some { d1 := (byteAt payload 19).toNat, d2 := (byteAt payload 20).toNat,
                   d3 := (byteAt payload 21).toNat, d4 := (byteAt payload 22).toNat })
  ∨ ((byteAt payload 18).toNat = 0 ∧ (∀ i, i < 4 → (byteAt payload (19 + i)).toNat = 0) ∧ pin = none)

theorem readPin_iff (payload : List Byte) (pin : Option Pin) :
    readPin (directiveBody payload) = some pin ↔ PinGiven payload pin := by
  simp only [readPin, PinGiven, byteAt_directiveBody, mbz_directiveBody, ← mbz_iff, byte_eq_one_iff,
    byte_eq_zero_iff, Nat.reduceAdd]
  by_cases given : (byteAt payload 18).toNat = 1
  · rw [if_pos given]
    simp only [Option.ite_none_right_eq_some, Bool.and_eq_true, decide_eq_true_eq, Option.some.injEq, given,
      one_ne_zero, false_and, or_false, true_and, and_assoc, eq_comm (a := pin)]
  · rw [if_neg given]
    simp only [Option.ite_none_right_eq_some, Bool.and_eq_true, decide_eq_true_eq, Option.some.injEq, given,
      false_and, false_or, and_assoc, eq_comm (a := pin)]

/-- R98: the adult window of a room record, or none. -/
def WindowGiven (payload : List Byte) (window : Option Window) : Prop :=
  ((byteAt payload 23).toNat = 1 ∧ field payload 26 4 ≤ 86399 ∧ field payload 30 4 ≤ 86399
    ∧ field payload 26 4 ≠ field payload 30 4
    ∧ window = some { opens := field payload 26 4, closes := field payload 30 4 })
  ∨ ((byteAt payload 23).toNat = 0 ∧ (∀ i, i < 8 → (byteAt payload (26 + i)).toNat = 0) ∧ window = none)

theorem readWindow_iff (payload : List Byte) (window : Option Window) :
    readWindow (directiveBody payload) = some window ↔ WindowGiven payload window := by
  simp only [readWindow, WindowGiven, byteAt_directiveBody, field_directiveBody, mbz_directiveBody, ← mbz_iff,
    byte_eq_one_iff, byte_eq_zero_iff, Nat.reduceAdd]
  by_cases given : (byteAt payload 23).toNat = 1
  · rw [if_pos given]
    simp only [Option.ite_none_right_eq_some, Bool.and_eq_true, decide_eq_true_eq, bne_iff_ne, Option.some.injEq,
      given, one_ne_zero, false_and, or_false, true_and, and_assoc, eq_comm (a := window)]
  · rw [if_neg given]
    simp only [Option.ite_none_right_eq_some, Bool.and_eq_true, decide_eq_true_eq, Option.some.injEq, given,
      false_and, false_or, and_assoc, eq_comm (a := window)]

theorem readRoomRecord_iff (payload : List Byte) (active : Bool) (r : RoomRecord) :
    readRoomRecord payload = some (active, r) ↔
      DirectiveHeader payload 36 ∧ (byteAt payload 8).toNat = (if active then 1 else 2)
      ∧ (byteAt payload 9).toNat = 0 ∧ (byteAt payload 42).toNat = 0 ∧ (byteAt payload 43).toNat = 0
      ∧ r.tenancyId = field payload 10 2 ∧ r.tenancyId ≠ 0
      ∧ r.packages = BitVec.ofNat 32 (field payload 12 4) ∧ (byteAt payload 16).toNat = r.lockMode.code
      ∧ r.threshold = (byteAt payload 17).toNat ∧ 1 ≤ r.threshold ∧ r.threshold ≤ 7 ∧ PinGiven payload r.pin
      ∧ r.session = field payload 24 2 ∧ 60 ≤ r.session ∧ r.session ≤ 28800 ∧ WindowGiven payload r.window
      ∧ r.spendLimit = field payload 34 4 ∧ r.spendLimit ≤ 999999
      ∧ r.billingDayStart = field payload 38 4 ∧ r.billingDayStart ≤ 86399 := by
  rw [← slotOf_iff, ← lockModeOf_iff, ← readPin_iff, ← readWindow_iff]
  simp only [readRoomRecord, byteAt_directiveBody, field_directiveBody, mbz_directiveBody, Nat.add_zero,
    Nat.reduceAdd]
  constructor
  · intro h
    split at h
    · rename_i slot mode pin window
      simp only [Option.ite_none_right_eq_some, Bool.and_eq_true, decide_eq_true_eq, bne_iff_ne, mbz_succ,
        mbz_zero, and_true, directiveHeaderOk_iff (show 36 ≤ 116 by decide)] at h
      obtain ⟨⟨⟨⟨⟨⟨⟨⟨⟨⟨header, s1⟩, s34, s35⟩, id⟩, low⟩, high⟩, short⟩, long⟩, limit⟩, start⟩, made⟩ := h
      cases made
      exact ⟨header, slot, s1, s34, s35, rfl, id, rfl, mode, rfl, low, high, pin, rfl, short, long, window, rfl,
        limit, rfl, start⟩
    · cases h
  · obtain ⟨id, packages, mode, threshold, pin, session, window, limit, start⟩ := r
    dsimp only
    rintro ⟨header, slot, s1, s34, s35, rfl, id, rfl, mode, rfl, low, high, pin, rfl, short, long, window, rfl,
      limit, rfl, start⟩
    simp only [slot, mode, pin, window, Option.ite_none_right_eq_some, Bool.and_eq_true, decide_eq_true_eq,
      bne_iff_ne, mbz_succ, mbz_zero, and_true, directiveHeaderOk_iff (show 36 ≤ 116 by decide)]
    exact ⟨⟨⟨⟨⟨⟨⟨⟨⟨header, s1⟩, s34, s35⟩, id⟩, low⟩, high⟩, short⟩, long⟩, limit⟩, start⟩

/-! ### The other directives (R102, R118, R144, R154, R155, R171) -/

theorem readNoBody_iff (payload : List Byte) : readNoBody payload = some () ↔ DirectiveHeader payload 0 := by
  simp only [readNoBody, Option.ite_none_right_eq_some, directiveHeaderOk_iff (show 0 ≤ 116 by decide), and_true]

theorem readNumber_iff (payload : List Byte) (k : Nat) : readNumber payload = some k ↔
    DirectiveHeader payload 4 ∧ (byteAt payload 10).toNat = 0 ∧ (byteAt payload 11).toNat = 0
    ∧ k = field payload 8 2 ∧ k ≠ 0 := by
  simp only [readNumber, field_directiveBody, mbz_directiveBody, Nat.add_zero, Nat.reduceAdd,
    Option.ite_none_right_eq_some, Bool.and_eq_true, directiveHeaderOk_iff (show 4 ≤ 116 by decide), mbz_succ,
    mbz_zero, and_true, bne_iff_ne, Option.some.injEq]
  constructor
  · rintro ⟨⟨⟨header, s2, s3⟩, nonzero⟩, rfl⟩
    exact ⟨header, s2, s3, rfl, nonzero⟩
  · rintro ⟨header, s2, s3, rfl, nonzero⟩
    exact ⟨⟨⟨header, s2, s3⟩, nonzero⟩, rfl⟩

theorem isServiceLabel_iff (label : Nat) : isServiceLabel label = true ↔ 1 ≤ label ∧ label ≤ 4079 := by
  simp [isServiceLabel]

theorem readEmergencyOn_iff (payload : List Byte) (label : Nat) : readEmergencyOn payload = some label ↔
    DirectiveHeader payload 4 ∧ (byteAt payload 8).toNat = 1 ∧ (byteAt payload 9).toNat = 0
    ∧ label = field payload 10 2 ∧ 1 ≤ label ∧ label ≤ 4079 := by
  simp only [readEmergencyOn, byteAt_directiveBody, field_directiveBody, mbz_directiveBody, Nat.add_zero,
    Nat.reduceAdd, isServiceLabel_iff, Option.ite_none_right_eq_some, Bool.and_eq_true,
    beq_iff_eq, byte_eq_one_iff, directiveHeaderOk_iff (show 4 ≤ 116 by decide), mbz_succ, mbz_zero, and_true,
    Option.some.injEq]
  constructor
  · rintro ⟨⟨⟨⟨header, spare⟩, mode⟩, low, high⟩, rfl⟩
    exact ⟨header, mode, spare, rfl, low, high⟩
  · rintro ⟨header, mode, spare, rfl, low, high⟩
    exact ⟨⟨⟨⟨header, spare⟩, mode⟩, low, high⟩, rfl⟩

theorem readEmergencyOff_iff (payload : List Byte) : readEmergencyOff payload = some () ↔
    DirectiveHeader payload 4 ∧ (byteAt payload 8).toNat = 2 ∧ (byteAt payload 9).toNat = 0
    ∧ field payload 10 2 = 0 := by
  simp only [readEmergencyOff, byteAt_directiveBody, field_directiveBody, mbz_directiveBody, Nat.add_zero,
    Nat.reduceAdd, Option.ite_none_right_eq_some, Bool.and_eq_true, beq_iff_eq, byte_eq_iff (c := 2),
    directiveHeaderOk_iff (show 4 ≤ 116 by decide), mbz_succ, mbz_zero, and_true]
  constructor
  · rintro ⟨⟨⟨header, spare⟩, mode⟩, noLabel⟩
    exact ⟨header, mode, spare, noLabel⟩
  · rintro ⟨header, mode, spare, noLabel⟩
    exact ⟨⟨⟨header, spare⟩, mode⟩, noLabel⟩

end Sys2Proof.Machine

open Sys2Proof.Machine in
/-- Settles O13: each row's fault through `onDirective`, and each reader's operands. -/
theorem formFaultsAreIgnoredWhole : Obligations.FormFaultsAreIgnoredWhole := by
  refine ⟨fun s q => ?faults, fun payload => ?readers⟩
  case faults =>
    refine ⟨?_, ?_, ?_, ?_, ?_, ?_, ?_, ?_, ?_, ?_, ?_, fun taken malformed =>
      exec_timeMark_of_malformed taken (readTimeMark_of_malformed malformed)⟩
    all_goals exact fun taken fault => congrArg Host.Outcome.next (onDirective_of_formFault taken fault _)
  case readers =>
    refine ⟨readTableOpen_iff payload, fun x => ?rows, readTableClose_iff payload, readRoomRecord_iff payload,
      readNoBody_iff payload, readNumber_iff payload, readEmergencyOn_iff payload, readEmergencyOff_iff payload⟩
    case rows =>
      rw [readTableRows_iff, imageSize_eq, maxImages_eq, tableSize_eq]
      rfl
end

section
/-!
The Lock Unit's two reactions to the second event (O36).
-/
namespace Sys2Proof.Machine

/-! ### The window membership (R120) -/

theorem crossesEdge_iff (before after : Membership) : crossesEdge before after = true ↔
    (before = .inside ∧ after = .outside) ∨ (before = .outside ∧ after = .inside) := by
  simp [crossesEdge]

theorem windowEvent_of_not_running {s : State} (h : running s = false) : windowEvent s = s := by
  simp [windowEvent, h]

/-- R120: the evaluation purges the queues where the membership crosses an edge. -/
theorem windowEvent_of_running {s : State} (hrun : running s = true) : windowEvent s =
    if (s.lock.membership = .inside ∧ membershipNow s = .outside)
        ∨ (s.lock.membership = .outside ∧ membershipNow s = .inside) then purge (evalMembership s)
    else evalMembership s := by
  simp only [windowEvent, hrun, if_true, crossesEdge_iff]

/-- R120: an evaluation of the membership leaves the lock state alone. -/
@[simp] theorem windowEvent_lock_state (s : State) : (windowEvent s).lock.state = s.lock.state := by
  rcases windowEvent_cases s with ⟨_, e⟩ | ⟨_, _, e⟩ | ⟨_, _, e⟩ <;> rw [e]
  · rfl
  · rfl

/-! ### The expiries (R119) -/

theorem expiryEvent_of_not_running {s : State} (h : running s = false) : expiryEvent s = s := by
  simp [expiryEvent, h]

theorem expiryEvent_of_session {s : State} (hrun : running s = true)
    (h : s.lock.state = .unlocked s.time.mono) : expiryEvent s = leaveUnlocked s := by
  simp [expiryEvent, hrun, h]

theorem expiryEvent_of_lockout {s : State} (hrun : running s = true)
    (h : s.lock.state = .lockout s.time.mono) :
    expiryEvent s = { s with lock := { s.lock with state := .locked } } := by
  simp [expiryEvent, hrun, h]

theorem expiryEvent_of_unreached {s : State} (session : s.lock.state ≠ .unlocked s.time.mono)
    (lockout : s.lock.state ≠ .lockout s.time.mono) : expiryEvent s = s := by
  rcases expiryEvent_cases s with e | ⟨_, h, _⟩ | ⟨_, h, _⟩
  · exact e
  · exact absurd h session
  · exact absurd h lockout

theorem lockEvent_of_expiryFirst {s : State} (h : s.model.windowFirst = false) :
    lockEvent s = windowEvent (expiryEvent s) := by
  simp [lockEvent, h]

theorem lockEvent_of_windowFirst {s : State} (h : s.model.windowFirst = true) :
    lockEvent s = expiryEvent (windowEvent s) := by
  simp [lockEvent, h]

/-! ### The rows of the expiries -/

theorem sessionExpires_iff (s : State) :
    sessionExpires s = true ↔ running s = true ∧ s.lock.state = .unlocked s.time.mono := by
  simp [sessionExpires]

theorem lockoutExpires_iff (s : State) :
    lockoutExpires s = true ↔ running s = true ∧ s.lock.state = .lockout s.time.mono := by
  simp [lockoutExpires]

theorem sessionExpires_of_unreached {s : State}
    (h : running s = false ∨ s.lock.state ≠ .unlocked s.time.mono) : sessionExpires s = false := by
  rcases h with h | h <;> simp [sessionExpires, h]

theorem lockoutExpires_of_unreached {s : State}
    (h : running s = false ∨ s.lock.state ≠ .lockout s.time.mono) : lockoutExpires s = false := by
  rcases h with h | h <;> simp [lockoutExpires, h]

theorem exec_sessionExpiry (s : State) :
    exec .sessionExpiry s = .next (if sessionExpires s then lockEvent (paid .lock s) else s) := rfl

theorem exec_lockoutExpiry (s : State) :
    exec .lockoutExpiry s = .next (if lockoutExpires s then lockEvent (paid .lock s) else s) := rfl

end Sys2Proof.Machine

open Sys2Proof.Machine in
/-- Settles O36: the two reactions in the order that the choice gives. -/
theorem lockExpiriesCloseTheLock : Obligations.LockExpiriesCloseTheLock := by
  intro s paidUp closed freed evaluated
  have window (u : State) (hrun : running u = true) : windowEvent u = evaluated u :=
    windowEvent_of_running hrun
  -- Neither reaction moves what the other compares, and both leave the part running.
  have still (hrun : running s = true) : running (windowEvent paidUp) = true :=
    (windowEvent_untouched paidUp).running.trans hrun
  have mono : (windowEvent paidUp).time.mono = s.time.mono :=
    congrArg TimeBase.mono (windowEvent_untouched paidUp).time
  have state : (windowEvent paidUp).lock.state = s.lock.state := windowEvent_lock_state paidUp
  refine ⟨fun hrun h => ?session, fun hrun h => ?lockout, fun h => ?noSession, fun h => ?noLockout⟩
  case session =>
    rw [exec_sessionExpiry, if_pos ((sessionExpires_iff s).mpr ⟨hrun, h⟩)]
    refine ⟨fun order => congrArg _ ?_, fun order => congrArg _ ?_⟩
    · rw [lockEvent_of_expiryFirst (s := paid .lock s) order, expiryEvent_of_session (s := paid .lock s) hrun h]
      exact window _ hrun
    · rw [lockEvent_of_windowFirst (s := paid .lock s) order]
      exact (expiryEvent_of_session (still hrun) (by rw [state, mono, h])).trans
        (congrArg leaveUnlocked (window paidUp hrun))
  case lockout =>
    rw [exec_lockoutExpiry, if_pos ((lockoutExpires_iff s).mpr ⟨hrun, h⟩)]
    refine ⟨fun order => congrArg _ ?_, fun order => congrArg _ ?_⟩
    · rw [lockEvent_of_expiryFirst (s := paid .lock s) order, expiryEvent_of_lockout (s := paid .lock s) hrun h]
      exact window _ hrun
    · rw [lockEvent_of_windowFirst (s := paid .lock s) order]
      exact (expiryEvent_of_lockout (still hrun) (by rw [state, mono, h])).trans
        (congrArg freed (window paidUp hrun))
  case noSession =>
    rw [exec_sessionExpiry, sessionExpires_of_unreached h]
    rfl
  case noLockout =>
    rw [exec_lockoutExpiry, lockoutExpires_of_unreached h]
    rfl
end

section
/-!
The Table Loader's reaction to a time event (O22, O23), and what the consumers of the second event leave
alone.
-/
namespace Sys2Proof.Machine

/-! ### Activation (R66) -/

theorem activates_of_waiting {s : State} {tb : Table} {g : Nat} {rows : List Image} {due : BuildingTime}
    (stage : (machine s tb).stage = .waiting g rows due) (undecided : (machine s tb).commitDue = false) :
    activates s tb = reached s.time.building due := by
  simp [activates, stage, undecided]

theorem activates_of_stays {s : State} {tb : Table}
    (h : ∀ g rows due, (machine s tb).stage = .waiting g rows due → reached s.time.building due = false) :
    activates s tb = false := by
  unfold activates
  split
  · rename_i g rows due stage
    rw [h g rows due stage, Bool.and_false]
  all_goals rfl

theorem waiting_of_activates {s : State} {tb : Table} (h : activates s tb = true) :
    ∃ g rows due, (machine s tb).stage = .waiting g rows due ∧ (machine s tb).commitDue = false
      ∧ reached s.time.building due = true := by
  unfold activates at h
  split at h
  · rename_i g rows due stage
    simp only [Bool.and_eq_true, Bool.not_eq_true'] at h
    exact ⟨g, rows, due, stage, h⟩
  all_goals cases h

/-- R66: what the activation of a table reads. -/
theorem activates_congr {s t : State} {tb : Table} (hm : machine t tb = machine s tb)
    (hb : t.time.building = s.time.building) : activates t tb = activates s tb := by
  simp only [activates, hm, hb]

theorem activateIfReached_of_activates {s : State} {tb : Table} (h : activates s tb = true) :
    activateIfReached tb s = commit tb s := if_pos h

theorem activateIfReached_of_not {s : State} {tb : Table} (h : activates s tb = false) :
    activateIfReached tb s = s := by
  simp [activateIfReached, h]

/-! ### The commit of a stage (R67) -/

/-- R67: a commit makes the stage the active copy of its own machine, and latches TABLE COMMITTED. -/
theorem commit_of_waiting {s : State} {tb : Table} {g : Nat} {rows : List Image} {due : BuildingTime}
    (stage : (machine s tb).stage = .waiting g rows due) :
    machine (commit tb s) tb =
        { machine s tb with activeGen := g, active := rows, stage := .idle, commitDue := false }
      ∧ (commit tb s).alerts = s.alerts.latch .tableCommitted := by
  unfold commit
  rw [stage]
  cases tb <;> exact ⟨rfl, rfl⟩

/-- R67: the commit of one table leaves the machine of the other alone. -/
theorem machine_commit_of_ne {s : State} {tb other : Table} (h : other ≠ tb) :
    machine (commit tb s) other = machine s other := by
  rcases commit_cases tb s with ⟨_, e⟩ | ⟨_, _, _, _, rfl, ⟨rfl, e⟩ | ⟨rfl, e⟩⟩ <;> rw [e]
  · cases other with
    | service => rfl
    | tariff => exact absurd rfl h
  · cases other with
    | service => exact absurd rfl h
    | tariff => rfl

/-- R167, R169: an output with what the gate's reactions to a commit can reach taken from `after`; its
selection, saved label, viewed flag, unit in transfer and ready line stand. -/
def Output.regated (out after : Output) : Output :=
  { out with queue := after.queue, state := after.state, entryWait := after.entryWait, last := after.last }

theorem Output.purged_regated (adm : Nat → Verdict) (out : Output) :
    out.purged adm = out.regated (out.purged adm) := rfl

theorem Output.rowLost_regated (hasRow : Nat → Bool) (out : Output) :
    out.rowLost hasRow = out.regated (out.rowLost hasRow) := by
  unfold Output.rowLost
  split <;> rfl

@[simp] theorem Output.rowLost_queue (hasRow : Nat → Bool) (out : Output) :
    (out.rowLost hasRow).queue = out.queue := by
  unfold Output.rowLost
  split <;> rfl

/-- R66, R67: the fields that the Table Loader's reaction can reach. -/
def ByLoader (s t : State) : Prop :=
  t = { s with
    alerts := { s.alerts with latched := t.alerts.latched }
    svc := t.svc
    tar := t.tar
    keys := { s.keys with slots := t.keys.slots }
    outA := s.outA.regated t.outA
    outB := s.outB.regated t.outB }

theorem ByLoader.trans {s t u : State} (h : ByLoader s t) (k : ByLoader t u) : ByLoader s u := by
  refine Eq.trans k ?_
  rw [h]
  rfl

/-- R83, R169: the slot test and the admission are those of the part with the new rows. -/
theorem serviceCommitted_eq (s : State) : serviceCommitted s =
    { s with
      keys := { s.keys with slots := flushSlots (slotOk s) s.keys.slots }
      outA := (s.outA.rowLost fun label => (serviceRow s label).isSome).purged (admissionOf s)
      outB := (s.outB.rowLost fun label => (serviceRow s label).isSome).purged (admissionOf s) } := rfl

theorem serviceCommitted_byLoader (s : State) : ByLoader s (serviceCommitted s) := by
  have lost (adm : Nat → Verdict) (hasRow : Nat → Bool) (out : Output) :
      (out.rowLost hasRow).purged adm = out.regated ((out.rowLost hasRow).purged adm) := by
    conv_lhs => rw [Output.purged_regated, Output.rowLost_regated]
    rfl
  rw [serviceCommitted_eq, ByLoader, ← lost, ← lost]

theorem commit_byLoader (tb : Table) (s : State) : ByLoader s (commit tb s) := by
  rcases commit_cases tb s with ⟨_, e⟩ | ⟨_, _, made, _, hm, ⟨rfl, e⟩ | ⟨rfl, e⟩⟩ <;> rw [e]
  · rfl
  · rw [hm]; rfl
  · have h : ByLoader s made := by rw [hm]; rfl
    exact h.trans (serviceCommitted_byLoader made)

theorem activateIfReached_byLoader (tb : Table) (s : State) : ByLoader s (activateIfReached tb s) := by
  unfold activateIfReached
  split
  · exact commit_byLoader tb s
  · rfl

theorem loaderEvent_byLoader (s : State) : ByLoader s (loaderEvent s) :=
  (activateIfReached_byLoader .service s).trans (activateIfReached_byLoader .tariff _)

theorem ByLoader.lock {s t : State} (h : ByLoader s t) : t.lock = s.lock := by rw [h]
theorem ByLoader.ret {s t : State} (h : ByLoader s t) : t.ret = s.ret := by rw [h]
theorem ByLoader.closing {s t : State} (h : ByLoader s t) : t.closing = s.closing := by rw [h]
theorem ByLoader.model {s t : State} (h : ByLoader s t) : t.model = s.model := by rw [h]
theorem ByLoader.viewed {s t : State} (h : ByLoader s t) :
    t.outA.viewed = s.outA.viewed ∧ t.outB.viewed = s.outB.viewed := by
  rw [h]
  exact ⟨rfl, rfl⟩

theorem machine_activateIfReached_of_ne {s : State} {tb other : Table} (h : other ≠ tb) :
    machine (activateIfReached tb s) other = machine s other := by
  unfold activateIfReached
  split
  · exact machine_commit_of_ne h
  · rfl

/-- R66: whether the Tariff Store's stage activates does not hang on the Service Table's. -/
theorem activates_tariff_after_service (s : State) :
    activates (activateIfReached .service s) .tariff = activates s .tariff :=
  activates_congr (machine_activateIfReached_of_ne (by decide))
    (congrArg TimeBase.building (activateIfReached_untouched .service s).time)

/-- R66: a stage that does not activate stands. -/
theorem machine_loaderEvent_of_not {s : State} {tb : Table} (h : activates s tb = false) :
    machine (loaderEvent s) tb = machine s tb := by
  unfold loaderEvent
  cases tb with
  | service => rw [machine_activateIfReached_of_ne (by decide), activateIfReached_of_not h]
  | tariff =>
    rw [activateIfReached_of_not ((activates_tariff_after_service s).trans h),
      machine_activateIfReached_of_ne (by decide)]

/-- R66, R67: a PENDING stage whose time is reached commits. -/
theorem loaderEvent_committed {s : State} {tb : Table} {g : Nat} {rows : List Image} {due : BuildingTime}
    (stage : (machine s tb).stage = .waiting g rows due) (undecided : (machine s tb).commitDue = false)
    (h : reached s.time.building due = true) :
    machine (loaderEvent s) tb = { machine s tb with activeGen := g, active := rows, stage := .idle }
      ∧ (loaderEvent s).alerts.isLatched .tableCommitted = true := by
  have activated : activates s tb = true := (activates_of_waiting stage undecided).trans h
  have settled : ({ machine s tb with activeGen := g, active := rows, stage := .idle } : TableMachine) =
      { machine s tb with activeGen := g, active := rows, stage := .idle, commitDue := false } := by
    rw [← undecided]
  rw [settled]
  unfold loaderEvent
  cases tb with
  | service =>
    obtain ⟨machine, alerts⟩ := commit_of_waiting stage
    rw [activateIfReached_of_activates activated]
    refine ⟨(machine_activateIfReached_of_ne (by decide)).trans machine,
      (activateIfReached_watched .tariff _).gains.latched _ ?_⟩
    simp [alerts]
  | tariff =>
    have same : machine (activateIfReached .service s) .tariff = machine s .tariff :=
      machine_activateIfReached_of_ne (by decide)
    obtain ⟨machine, alerts⟩ := commit_of_waiting (same ▸ stage)
    rw [activateIfReached_of_activates ((activates_tariff_after_service s).trans activated), ← same]
    exact ⟨machine, by simp [alerts]⟩

/-! ### The Lock Unit (R119, R120) -/

/-- R119, R120: the fields that the Lock Unit's reactions can reach. -/
def ByLock (s t : State) : Prop :=
  t = { s with lock := t.lock, alerts := t.alerts, outA := t.outA, outB := t.outB }

theorem ByLock.trans {s t u : State} (h : ByLock s t) (k : ByLock t u) : ByLock s u := by
  refine Eq.trans k ?_
  rw [h]

theorem ByLock.ret {s t : State} (h : ByLock s t) : t.ret = s.ret := by rw [h]
theorem ByLock.closing {s t : State} (h : ByLock s t) : t.closing = s.closing := by rw [h]
theorem ByLock.model {s t : State} (h : ByLock s t) : t.model = s.model := by rw [h]
theorem ByLock.machine {s t : State} (h : ByLock s t) (tb : Table) : machine t tb = machine s tb := by
  rw [h]
  cases tb <;> rfl

theorem expiryEvent_byLock (s : State) : ByLock s (expiryEvent s) := by
  rcases expiryEvent_cases s with e | ⟨_, _, e⟩ | ⟨_, _, e⟩ <;> rw [e] <;> rfl

theorem windowEvent_byLock (s : State) : ByLock s (windowEvent s) := by
  rcases windowEvent_cases s with ⟨_, e⟩ | ⟨_, _, e⟩ | ⟨_, _, e⟩ <;> rw [e] <;> rfl

theorem lockEvent_byLock (s : State) : ByLock s (lockEvent s) := by
  rcases lockEvent_cases s with ⟨_, e⟩ | ⟨_, e⟩ <;> rw [e]
  · exact (expiryEvent_byLock s).trans (windowEvent_byLock _)
  · exact (windowEvent_byLock s).trans (expiryEvent_byLock _)

/-- R120: what the window membership is read from. -/
theorem membershipNow_congr {s t : State} (tenancy : t.ret.tenancy = s.ret.tenancy)
    (active : t.ret.active = s.ret.active) (building : t.time.building = s.time.building) :
    membershipNow t = membershipNow s := by
  simp only [membershipNow, guest, tenancy, active, building]

/-- R120: after an evaluation the membership is up to date. -/
theorem windowEvent_lock {s : State} (hrun : running s = true) :
    (windowEvent s).lock = { s.lock with membership := membershipNow s } := by
  rcases windowEvent_cases s with ⟨h, _⟩ | ⟨_, _, e⟩ | ⟨_, _, e⟩
  · rw [hrun] at h
    cases h
  · rw [e]; rfl
  · rw [e]; rfl

/-! ### The Purchase Meter (R133) -/

/-- R133: what the Purchase Meter's reaction leaves alone beside the untouched fields. -/
structure ByMeter (s t : State) : Prop where
  model : t.model = s.model
  lock : t.lock = s.lock
  closing : t.closing = s.closing
  svc : t.svc = s.svc
  tar : t.tar = s.tar
  tenancy : t.ret.tenancy = s.ret.tenancy
  active : t.ret.active = s.ret.active
  incoming : t.ret.incoming = s.ret.incoming

theorem ByMeter.refl (s : State) : ByMeter s s := ⟨rfl, rfl, rfl, rfl, rfl, rfl, rfl, rfl⟩

theorem ByMeter.trans {s t u : State} (h : ByMeter s t) (k : ByMeter t u) : ByMeter s u :=
  ⟨k.model.trans h.model, k.lock.trans h.lock, k.closing.trans h.closing, k.svc.trans h.svc,
    k.tar.trans h.tar, k.tenancy.trans h.tenancy, k.active.trans h.active, k.incoming.trans h.incoming⟩

theorem ByMeter.foldl {α : Type} (f : State → α → State) (hf : ∀ s a, ByMeter s (f s a)) :
    ∀ (l : List α) (s : State), ByMeter s (l.foldl f s)
  | [], s => .refl s
  | a :: l, s => (hf s a).trans (ByMeter.foldl f hf l (f s a))

theorem ByMeter.machine {s t : State} (h : ByMeter s t) (tb : Table) : machine t tb = machine s tb := by
  cases tb
  · exact h.svc
  · exact h.tar

theorem endPurchase_byMeter (n : Nat) (reason : EndReason) (s : State) :
    ByMeter s (endPurchase n reason s) := by
  rcases endPurchase_cases n reason s with ⟨_, e⟩ | ⟨_, _, e⟩ <;> rw [e]
  · exact .refl s
  · exact ⟨rfl, rfl, rfl, rfl, rfl, rfl, rfl, rfl⟩

theorem beginRepetition_byMeter (n position k : Nat) (s : State) :
    ByMeter s (beginRepetition n position k s) := by
  rcases beginRepetition_cases n position k s with
    ⟨_, e⟩ | ⟨_, _, ⟨_, e⟩ | ⟨_, e⟩ | ⟨_, e⟩ | ⟨_, e⟩⟩ <;> rw [e]
  · exact .refl s
  · exact ⟨rfl, rfl, rfl, rfl, rfl, rfl, rfl, rfl⟩
  · exact endPurchase_byMeter ..
  · exact endPurchase_byMeter ..
  · exact ⟨rfl, rfl, rfl, rfl, rfl, rfl, rfl, rfl⟩

theorem meterPurchase_byMeter (n : Nat) (viewed : Bool) (s : State) :
    ByMeter s (meterPurchase n viewed s) := by
  rcases meterPurchase_cases n viewed s with e | ⟨_, e⟩ | ⟨_, _, e⟩ | ⟨_, e⟩ <;> rw [e]
  · exact .refl s
  · exact ⟨rfl, rfl, rfl, rfl, rfl, rfl, rfl, rfl⟩
  · exact beginRepetition_byMeter ..
  · exact endPurchase_byMeter ..

theorem meterAll_byMeter (s0 s : State) : ByMeter s (meterAll s0 s) :=
  ByMeter.foldl (fun (s : State) (p : Purchase) => meterPurchase p.number (isViewed s0 p.film) s)
    (fun s p => meterPurchase_byMeter p.number _ s) s0.ret.purchases s

theorem evalBillingDay_byMeter (s : State) : ByMeter s (evalBillingDay s) := by
  obtain ⟨_, _, e, _⟩ := evalBillingDay_ret s
  rw [e]
  exact ⟨rfl, rfl, rfl, rfl, rfl, rfl, rfl, rfl⟩

theorem clearViewed_byMeter (s : State) : ByMeter s (clearViewed s) :=
  ⟨rfl, rfl, rfl, rfl, rfl, rfl, rfl, rfl⟩

theorem evalBillingDay_emergency (s : State) : (evalBillingDay s).emergency = s.emergency :=
  (evalBillingDay_untouched s).emergency

theorem meterSecond_of_not_running {s : State} (h : running s = false) : meterSecond s = s := by
  simp [meterSecond, h]

/-- R136: the override suspends the live purchases. -/
theorem meterSecond_of_override {s : State} (hrun : running s = true) (h : s.emergency ≠ none) :
    meterSecond s = clearViewed (evalBillingDay s) := by
  have override : s.emergency.isSome = true := Option.isSome_iff_ne_none.mpr h
  simp only [meterSecond, hrun, evalBillingDay_emergency, override, if_true]

theorem meterSecond_of_no_override {s : State} (hrun : running s = true) (h : s.emergency = none) :
    meterSecond s = clearViewed (meterAll (evalBillingDay s) (evalBillingDay s)) := by
  simp [meterSecond, hrun, evalBillingDay_emergency, h]

/-- R133: what the Purchase Meter's reaction can be. -/
theorem meterSecond_cases (s : State) :
    (running s = false ∧ meterSecond s = s)
      ∨ ∃ u, ByMeter s u ∧ meterSecond s = clearViewed u := by
  cases hrun : running s with
  | false => exact .inl ⟨rfl, meterSecond_of_not_running hrun⟩
  | true =>
    by_cases h : s.emergency = none
    · exact .inr ⟨_, (evalBillingDay_byMeter s).trans (meterAll_byMeter _ _),
        meterSecond_of_no_override hrun h⟩
    · exact .inr ⟨_, evalBillingDay_byMeter s, meterSecond_of_override hrun h⟩

theorem meterSecond_byMeter (s : State) : ByMeter s (meterSecond s) := by
  rcases meterSecond_cases s with ⟨_, e⟩ | ⟨u, h, e⟩ <;> rw [e]
  · exact .refl s
  · exact h.trans (clearViewed_byMeter u)

/-! ### The Tenancy Unit (R105) -/

theorem timeoutReached_iff (s : State) : timeoutReached s = true ↔
    running s = true ∧ s.ret.tenancy = .closing ∧ s.closing = some s.time.mono := by
  simp [timeoutReached, and_assoc]

theorem tenancySecond_of_reached {s : State} (hrun : running s = true) (closing : s.ret.tenancy = .closing)
    (h : s.closing = some s.time.mono) : tenancySecond s = completeTenancy s :=
  if_pos ((timeoutReached_iff s).mpr ⟨hrun, closing, h⟩)

theorem tenancySecond_of_unreached {s : State}
    (h : ¬(running s = true ∧ s.ret.tenancy = .closing ∧ s.closing = some s.time.mono)) :
    tenancySecond s = s := if_neg fun e => h ((timeoutReached_iff s).mp e)

theorem tenancySecond_cases (s : State) :
    tenancySecond s = completeTenancy s ∨ tenancySecond s = s := by
  unfold tenancySecond
  split
  · exact .inl rfl
  · exact .inr rfl

/-! ### The model's schedule (logs 4, 5, 26) -/

/-- No consumer of the second event reads or uses up a free choice, or owes the event to itself. -/
theorem takeSecond_model (c : Consumer) (s : State) : (takeSecond c s).model = s.model := by
  cases c with
  | lock => exact (lockEvent_byLock s).model
  | meter => exact (meterSecond_byMeter s).model
  | loader => exact (loaderEvent_byLoader s).model
  | tenancy =>
    show (tenancySecond s).model = s.model
    rcases tenancySecond_cases s with e | e <;> rw [e]
    rfl
  | keys => rfl
  | gate => rfl

theorem foldl_takeSecond_model (l : List Consumer) (s : State) :
    (l.foldl (fun s c => takeSecond c s) s).model = s.model := by
  induction l generalizing s with
  | nil => rfl
  | cons c l ih => exact (ih _).trans (takeSecond_model c s)

theorem settle_model (s : State) : (settle s).model = { s.model with due := [] } :=
  foldl_takeSecond_model ..

end Sys2Proof.Machine
end

section
/-!
The second event (O23).
-/
namespace Sys2Proof.Machine

/-! ### The second event (R41, R43, R47) -/

theorem exec_secondEvent_of_live {s : State} (h : live s = true) :
    exec .secondEvent s = .next (secondEvent s) := congrArg Host.Outcome.next (if_pos h)

theorem exec_secondEvent_of_not_live {s : State} (h : live s = false) : exec .secondEvent s = .next s := by
  refine congrArg Host.Outcome.next (if_neg ?_)
  simp [h]

/-- R47, logs 4, 5 and 26: what is owed is taken first, then the event's own choice delivers it. -/
theorem secondEvent_eq (s : State) : secondEvent s =
    (inOrder (nextChoice s).order secondConsumers).foldl
      (fun u c => deliverSecond (nextChoice s).later c u)
      { settle s with
        time := s.time.second
        model :=
          { choices := s.model.choices.tail
            due := []
            windowFirst := (nextChoice s).windowFirst
            drawn := s.model.drawn } } := by
  have choice : nextChoice (settle s) = nextChoice s := by simp only [nextChoice, settle_model]
  unfold secondEvent
  simp only [choice, settle_model, (settle_untouched s).time]

/-- R41, R43: the part with both clocks advanced, before any consumer takes the second event. -/
def clocksAdvanced (s : State) : State :=
  { s with time := s.time.second, model := { s.model with windowFirst := false } }

/-- R47: the part once the consumers have taken the second event in the order of the table of 3.4, the
Tenancy Unit apart. -/
def secondUpToTenancy (s : State) : State := loaderEvent (meterSecond (windowEvent (expiryEvent s)))

theorem secondEvent_of_no_choice {s : State} (due : s.model.due = []) (choices : s.model.choices = []) :
    secondEvent s = tenancySecond (secondUpToTenancy (clocksAdvanced s)) := by
  have exhausted : nextChoice s = Choice.none := by simp [nextChoice, choices]
  have model : (⟨s.model.choices.tail, [], Choice.none.windowFirst, s.model.drawn⟩ : Schedule) =
      { s.model with windowFirst := false } := by
    have tail : s.model.choices.tail = s.model.choices := by rw [choices, List.tail_nil]
    rw [← due, tail]
    rfl
  rw [secondEvent_eq, exhausted, model, settle_of_none due]
  rfl

theorem BuildingTime.advance_of_lt {b : BuildingTime} (h : b.second < 86399) :
    b.advance = { day := b.day, second := b.second + 1 } := if_pos h

theorem BuildingTime.advance_of_last {b : BuildingTime} (h : b.second = 86399) :
    b.advance = { day := b.day + 1, second := 0 } := if_neg (by omega)

/-! ### The second event with no free choice left, outside STARTING -/

theorem secondUpToTenancy_untouched (s : State) : Untouched s (secondUpToTenancy s) :=
  (((expiryEvent_untouched s).trans (windowEvent_untouched _)).trans (meterSecond_untouched _)).trans
    (loaderEvent_untouched _)

theorem secondUpToTenancy_lock (s : State) :
    (secondUpToTenancy s).lock = (windowEvent (expiryEvent s)).lock :=
  (loaderEvent_byLoader _).lock.trans (meterSecond_byMeter _).lock

/-- R119: a reached expiry, of a session or of a lockout, leaves the lock LOCKED. -/
theorem expiryEvent_closes {s : State} (hrun : running s = true)
    (h : s.lock.state = .unlocked s.time.mono ∨ s.lock.state = .lockout s.time.mono) :
    (expiryEvent s).lock.state = .locked := by
  rcases h with h | h
  · rw [expiryEvent_of_session hrun h]
    rfl
  · rw [expiryEvent_of_lockout hrun h]

theorem secondUpToTenancy_closes {s : State} (hrun : running s = true)
    (h : s.lock.state = .unlocked s.time.mono ∨ s.lock.state = .lockout s.time.mono) :
    (secondUpToTenancy s).lock.state = .locked := by
  rw [secondUpToTenancy_lock, windowEvent_lock_state]
  exact expiryEvent_closes hrun h

theorem secondUpToTenancy_sessionEnded {s : State} (hrun : running s = true)
    (h : s.lock.state = .unlocked s.time.mono) :
    (secondUpToTenancy s).alerts.isLatched .sessionEnded = true := by
  refine (((windowEvent_watched _).trans (meterSecond_watched _)).trans
    (loaderEvent_watched _)).gains.latched _ ?_
  rw [expiryEvent_of_session hrun h]
  simp

theorem secondUpToTenancy_ret (s : State) :
    (secondUpToTenancy s).ret.tenancy = s.ret.tenancy ∧ (secondUpToTenancy s).ret.active = s.ret.active
      ∧ (secondUpToTenancy s).ret.incoming = s.ret.incoming := by
  have lock : (windowEvent (expiryEvent s)).ret = s.ret :=
    ((expiryEvent_byLock s).trans (windowEvent_byLock _)).ret
  have meter := meterSecond_byMeter (windowEvent (expiryEvent s))
  unfold secondUpToTenancy
  rw [(loaderEvent_byLoader _).ret]
  exact ⟨meter.tenancy.trans (congrArg _ lock), meter.active.trans (congrArg _ lock),
    meter.incoming.trans (congrArg _ lock)⟩

theorem secondUpToTenancy_closing (s : State) : (secondUpToTenancy s).closing = s.closing :=
  ((loaderEvent_byLoader _).closing.trans (meterSecond_byMeter _).closing).trans
    ((expiryEvent_byLock s).trans (windowEvent_byLock _)).closing

theorem secondUpToTenancy_membership {s : State} (hrun : running s = true) :
    (secondUpToTenancy s).lock.membership = membershipNow (secondUpToTenancy s) := by
  have still : running (expiryEvent s) = true := (expiryEvent_untouched s).running.trans hrun
  obtain ⟨tenancy, active, _⟩ := secondUpToTenancy_ret s
  have ret : (expiryEvent s).ret = s.ret := (expiryEvent_byLock s).ret
  rw [secondUpToTenancy_lock, windowEvent_lock still]
  refine (membershipNow_congr (by rw [tenancy, ret]) (by rw [active, ret]) ?_).symm
  rw [(secondUpToTenancy_untouched s).time, (expiryEvent_untouched s).time]

/-- R131: the Purchase Meter has cleared both viewed flags. -/
theorem secondUpToTenancy_viewed {s : State} (hrun : running s = true) :
    (secondUpToTenancy s).outA.viewed = false ∧ (secondUpToTenancy s).outB.viewed = false := by
  have still : running (windowEvent (expiryEvent s)) = true :=
    ((expiryEvent_untouched s).trans (windowEvent_untouched _)).running.trans hrun
  obtain ⟨a, b⟩ := (loaderEvent_byLoader (meterSecond (windowEvent (expiryEvent s)))).viewed
  rcases meterSecond_cases (windowEvent (expiryEvent s)) with ⟨h, _⟩ | ⟨_, _, e⟩
  · rw [still] at h
    cases h
  · rw [e] at a b
    unfold secondUpToTenancy
    rw [e]
    exact ⟨a, b⟩

theorem secondUpToTenancy_committed {s : State} {tb : Table} {g : Nat} {rows : List Image}
    {due : BuildingTime} (stage : (machine s tb).stage = .waiting g rows due)
    (undecided : (machine s tb).commitDue = false) (h : reached s.time.building due = true) :
    machine (secondUpToTenancy s) tb = { machine s tb with activeGen := g, active := rows, stage := .idle }
      ∧ (secondUpToTenancy s).alerts.isLatched .tableCommitted = true := by
  have same : machine (meterSecond (windowEvent (expiryEvent s))) tb = machine s tb :=
    ((meterSecond_byMeter _).machine tb).trans
      (((expiryEvent_byLock s).trans (windowEvent_byLock _)).machine tb)
  have time : (meterSecond (windowEvent (expiryEvent s))).time = s.time :=
    (((expiryEvent_untouched s).trans (windowEvent_untouched _)).trans (meterSecond_untouched _)).time
  rw [← same]
  exact loaderEvent_committed (same ▸ stage) (same ▸ undecided) (time ▸ h)

theorem tenancySecond_machine (s : State) (tb : Table) : machine (tenancySecond s) tb = machine s tb := by
  rcases tenancySecond_cases s with e | e <;> rw [e]
  cases tb <;> rfl

theorem tenancySecond_viewed (s : State) : (tenancySecond s).outA.viewed = s.outA.viewed
    ∧ (tenancySecond s).outB.viewed = s.outB.viewed := by
  rcases tenancySecond_cases s with e | e <;> rw [e] <;> exact ⟨rfl, rfl⟩

theorem tenancySecond_locked {s : State} (h : s.lock.state = .locked) :
    (tenancySecond s).lock.state = .locked := by
  rcases tenancySecond_cases s with e | e <;> rw [e]
  · rfl
  · exact h

theorem tenancySecond_membership {s : State} (h : s.lock.membership = membershipNow s) :
    (tenancySecond s).lock.membership = membershipNow (tenancySecond s) := by
  rcases tenancySecond_cases s with e | e <;> rw [e]
  · rw [(completeTenancy_completed s).lock]
  · exact h

/-! ### The billing day (R140) -/

theorem guest_of_occupied {s : State} {g : RoomRecord} (h : s.ret.tenancy = .occupied)
    (active : s.ret.active = some g) : guest s = some g := (if_pos h).trans active

theorem guest_of_not_occupied {s : State} (h : s.ret.tenancy ≠ .occupied) : guest s = none := if_neg h

theorem evalBillingDay_of_no_guest {s : State} (h : s.ret.tenancy ≠ .occupied ∨ s.time.building = none) :
    evalBillingDay s = s := by
  rcases h with h | h
  · simp [evalBillingDay, guest_of_not_occupied h]
  · unfold evalBillingDay
    rw [h]
    cases guest s <;> rfl

theorem evalBillingDay_of_unset {s : State} {g : RoomRecord} {b : BuildingTime} (hg : guest s = some g)
    (hb : s.time.building = some b) (h : s.ret.billingDay = none) :
    evalBillingDay s = { s with ret := { s.ret with billingDay := some (billingDayUnder g b) } } := by
  simp only [evalBillingDay, hg, hb, h]
  rfl

theorem evalBillingDay_of_set {s : State} {g : RoomRecord} {b : BuildingTime} {c : BitVec 16}
    (hg : guest s = some g) (hb : s.time.building = some b) (h : s.ret.billingDay = some c) :
    evalBillingDay s = if movesForward c (billingDayUnder g b) then
      { s with ret := { s.ret with billingDay := some (billingDayUnder g b), spentToday := 0 } } else s := by
  simp only [evalBillingDay, hg, hb, h]
  rfl

theorem movesForward_iff (c day : BitVec 16) : movesForward c day = true ↔
    1 ≤ (day.toNat + 65536 - c.toNat) % 65536 ∧ (day.toNat + 65536 - c.toNat) % 65536 ≤ 32767 := by
  have moved : (day - c).toNat = (day.toNat + 65536 - c.toNat) % 65536 := by bv_omega
  simp [movesForward, moved]

theorem membershipNow_of_not_occupied {s : State} (h : s.ret.tenancy ≠ .occupied) :
    membershipNow s = .none := by
  simp [membershipNow, guest_of_not_occupied h]

end Sys2Proof.Machine

open Sys2Proof Sys2Proof.Machine in
/-- Settles O23: the clocks and the delivery by `secondEvent_eq`, then each consumer by its own lemmas. -/
theorem secondEventAdvancesBothClocks : Obligations.SecondEventAdvancesBothClocks := by
  refine ⟨fun s hlive => ?clocks, fun s h => exec_secondEvent_of_not_live h,
    fun s hlive due choices => ?inTableOrder, fun s hlive => ?delivery, fun s => ?consumers,
    fun b => ⟨BuildingTime.advance_of_lt, BuildingTime.advance_of_last⟩,
    fun s hrun due choices => ?reactions, fun s h => ?starting, fun s hrun => ?running, fun s => ?evaluations⟩
  case clocks =>
    have h := secondEvent_untouched s
    exact ⟨_, exec_secondEvent_of_live hlive, congrArg TimeBase.mono h.time,
      congrArg TimeBase.building h.time, h.power, h.install, h.readSig, h.merge, h.results, h.port,
      h.emergency, h.pending⟩
  case inTableOrder =>
    rw [exec_secondEvent_of_live hlive, secondEvent_of_no_choice due choices]
    rfl
  case delivery =>
    intro choice consumers settled
    refine ⟨inOrder choice.order consumers, inOrder_perm _ _, inOrder_of_perm, ?_⟩
    have deliver : (fun (u : State) c => deliverSecond choice.later c u) = fun u c =>
        if c ∈ choice.later then { u with model := { u.model with due := u.model.due ++ [c] } }
        else takeSecond c u := by
      funext u c
      simp [deliverSecond, owe]
    rw [exec_secondEvent_of_live hlive, secondEvent_eq, ← deliver]
    rfl
  case consumers =>
    exact ⟨lockEvent_of_expiryFirst, lockEvent_of_windowFirst, rfl, rfl, rfl⟩
  case reactions =>
    have hlive : live s = true := by
      simp only [running, Bool.and_eq_true] at hrun
      exact hrun.1
    have still : running (clocksAdvanced s) = true := hrun
    have gains := (tenancySecond_watched (secondUpToTenancy (clocksAdvanced s))).gains
    obtain ⟨viewedA, viewedB⟩ := tenancySecond_viewed (secondUpToTenancy (clocksAdvanced s))
    obtain ⟨clearedA, clearedB⟩ := secondUpToTenancy_viewed still
    obtain ⟨tenancy, active, incoming⟩ := secondUpToTenancy_ret (clocksAdvanced s)
    have closing := secondUpToTenancy_closing (clocksAdvanced s)
    have untouched := secondUpToTenancy_untouched (clocksAdvanced s)
    refine ⟨_, (exec_secondEvent_of_live hlive).trans
        (congrArg _ (secondEvent_of_no_choice due choices)), fun h => ⟨?_, ?_⟩, fun h => ?_,
      tenancySecond_membership (secondUpToTenancy_membership still), viewedA.trans clearedA,
      viewedB.trans clearedB, fun tb g rows time stage undecided h => ?_, fun h expired => ?_,
      fun h waits => ?_⟩
    · exact tenancySecond_locked (secondUpToTenancy_closes still (.inl h))
    · exact gains.latched _ (secondUpToTenancy_sessionEnded still h)
    · exact tenancySecond_locked (secondUpToTenancy_closes still (.inr h))
    · obtain ⟨committed, latched⟩ :=
        secondUpToTenancy_committed (s := clocksAdvanced s) (tb := tb) stage undecided h
      exact ⟨(tenancySecond_machine _ tb).trans committed, gains.latched _ latched⟩
    · have reached : tenancySecond (secondUpToTenancy (clocksAdvanced s)) =
          completeTenancy (secondUpToTenancy (clocksAdvanced s)) :=
        tenancySecond_of_reached (untouched.running.trans still) (tenancy.trans h)
          (closing.trans (by rw [untouched.time]; exact expired))
      rw [reached]
      refine ⟨?_, incoming, rfl, rfl, rfl, by simp⟩
      show (if (secondUpToTenancy (clocksAdvanced s)).ret.incoming.isSome then _ else _) = _
      rw [incoming]
      rfl
    · rw [tenancySecond_of_unreached fun e => waits ?_]
      · exact ⟨tenancy.trans h, closing⟩
      · have expired := closing.symm.trans e.2.2
        rw [untouched.time] at expired
        exact expired
  case starting =>
    exact ⟨expiryEvent_of_not_running h, windowEvent_of_not_running h, meterSecond_of_not_running h,
      tenancySecond_of_unreached fun e => by simp [h] at e⟩
  case running =>
    exact ⟨expiryEvent_of_session hrun, expiryEvent_of_lockout hrun, expiryEvent_of_unreached,
      fun h => (windowEvent_of_running hrun).trans (if_pos h),
      fun h => (windowEvent_of_running hrun).trans (if_neg h), meterSecond_of_override hrun,
      meterSecond_of_no_override hrun,
      fun h expired => tenancySecond_of_reached hrun h expired ▸ completeTenancy_completed s,
      fun h => tenancySecond_of_unreached fun e => h.elim (· e.2.1) (· e.2.2)⟩
  case evaluations =>
    refine ⟨rfl, fun tb g rows due stage undecided h =>
        activateIfReached_of_activates ((activates_of_waiting stage undecided).trans h),
      fun tb h => activateIfReached_of_not (activates_of_stays h), membershipNow_of_not_occupied,
      evalBillingDay_of_no_guest, fun g occupied active => ?_⟩
    have hg := guest_of_occupied occupied active
    refine ⟨fun h => by simp only [membershipNow, hg, h], fun w h => by simp only [membershipNow, hg, h],
      fun b hb => ⟨evalBillingDay_of_unset hg hb, fun c h => ⟨fun low high => ?_, fun stays => ?_⟩⟩⟩
    · exact (evalBillingDay_of_set hg hb h).trans (if_pos ((movesForward_iff ..).mpr ⟨low, high⟩))
    · refine (evalBillingDay_of_set hg hb h).trans (if_neg fun e => ?_)
      obtain ⟨low, high⟩ := (movesForward_iff ..).mp e
      omega
end

section
/-!
The time step event (O22): the Purchase Meter's evaluation commutes with the reactions of the Lock Unit and
of the Table Loader, so that two orders remain, and in both `TimeStepped` holds.
-/
namespace Sys2Proof.Machine

/-! ### The order of the three consumers (R47) -/

/-- The part with another current billing day and spent-today. -/
def State.onDay (day : Option (BitVec 16)) (spent : Nat) (s : State) : State :=
  { s with ret := { s.ret with billingDay := day, spentToday := spent } }

/-- R140: what the evaluation writes hangs on the retained area and the clock alone. -/
theorem evalBillingDay_onDay (s : State) : ∃ day spent, ∀ u : State, u.ret = s.ret → u.time = s.time →
    evalBillingDay u = u.onDay day spent := by
  obtain ⟨day, spent, e, _⟩ := evalBillingDay_ret s
  refine ⟨day, spent, fun u ret time => ?_⟩
  have same : evalBillingDay u = { u with ret := (evalBillingDay s).ret } := by
    have hg : guest u = guest s := by simp only [guest, ret]
    unfold evalBillingDay
    rw [hg, time, ret]
    dsimp only
    repeat' split
    all_goals first
      | rfl
      | rw [← ret, ← time]
  rw [same, e, State.onDay, ret]

theorem windowEvent_onDay (day : Option (BitVec 16)) (spent : Nat) (s : State) :
    windowEvent (s.onDay day spent) = (windowEvent s).onDay day spent := by
  simp only [windowEvent, apply_ite (State.onDay day spent)]
  rfl

theorem commit_onDay (tb : Table) (day : Option (BitVec 16)) (spent : Nat) (s : State) :
    commit tb (s.onDay day spent) = (commit tb s).onDay day spent := by
  have same : machine (s.onDay day spent) tb = machine s tb := by cases tb <;> rfl
  unfold commit
  rw [same]
  cases (machine s tb).stage <;> cases tb <;> rfl

theorem loaderEvent_onDay (day : Option (BitVec 16)) (spent : Nat) (s : State) :
    loaderEvent (s.onDay day spent) = (loaderEvent s).onDay day spent := by
  have one (tb : Table) (s : State) :
      activateIfReached tb (s.onDay day spent) = (activateIfReached tb s).onDay day spent := by
    have same : activates (s.onDay day spent) tb = activates s tb := by cases tb <;> rfl
    simp only [activateIfReached, apply_ite (State.onDay day spent), commit_onDay, same]
  simp only [loaderEvent, one]

theorem evalBillingDay_windowEvent (s : State) :
    evalBillingDay (windowEvent s) = windowEvent (evalBillingDay s) := by
  obtain ⟨day, spent, h⟩ := evalBillingDay_onDay s
  rw [h s rfl rfl, windowEvent_onDay, h _ (windowEvent_byLock s).ret (windowEvent_untouched s).time]

theorem evalBillingDay_loaderEvent (s : State) :
    evalBillingDay (loaderEvent s) = loaderEvent (evalBillingDay s) := by
  obtain ⟨day, spent, h⟩ := evalBillingDay_onDay s
  rw [h s rfl rfl, loaderEvent_onDay, h _ (loaderEvent_byLoader s).ret (loaderEvent_untouched s).time]

/-- R47: of the six orders of the consumers, two can differ. -/
theorem foldl_takeStep_cases {order : List Consumer} (h : order.Perm [.lock, .meter, .loader]) (s : State) :
    order.foldl (fun u c => takeStep c u) s = evalBillingDay (loaderEvent (windowEvent s))
      ∨ order.foldl (fun u c => takeStep c u) s = evalBillingDay (windowEvent (loaderEvent s)) := by
  have mem := List.mem_permutations'.mpr h
  simp only [List.permutations', List.permutations'Aux, List.flatMap_cons, List.flatMap_nil, List.map_cons,
    List.map_nil, List.cons_append, List.nil_append, List.append_nil, List.mem_cons, List.not_mem_nil,
    or_false] at mem
  rcases mem with rfl | rfl | rfl | rfl | rfl | rfl
  all_goals simp only [List.foldl, takeStep, evalBillingDay_windowEvent, evalBillingDay_loaderEvent, true_or,
    or_true]

/-! ### The queues under the reactions (R120, R167) -/

/-- R167: one reaction of a consumer, which purges the queues where `raised`: what it does to them, under the
admission that it leaves. -/
structure Purging (s t : State) (raised : Prop) : Prop where
  queue : ∀ o, QueuePurged [admissionOf t] (output s o).queue (output t o).queue
  admitted : raised → PassedAdmitted t t.outA ∧ PassedAdmitted t t.outB
  kept : ¬raised → t.outA = s.outA ∧ t.outB = s.outB ∧ admissionOf t = admissionOf s

theorem QueuePurged.refl (adms : List (Nat → Verdict)) (queue : List QueuedUnit) :
    QueuePurged adms queue queue := ⟨rfl, fun _ _ h => .inl h⟩

/-- R167: a reaction that purges nothing. -/
theorem Purging.of_kept {s t : State} {raised : Prop} (h : ¬raised) (outA : t.outA = s.outA)
    (outB : t.outB = s.outB) (adm : admissionOf t = admissionOf s) : Purging s t raised where
  queue o := by
    have same : output t o = output s o := by
      cases o
      · exact outA
      · exact outB
    rw [same]
    exact .refl _ _
  admitted e := absurd e h
  kept _ := ⟨outA, outB, adm⟩

/-- R167: two reactions, one of which leaves the admission as it is. -/
theorem Purging.both {s m t : State} {first second : Prop} (h : Purging s m first) (k : Purging m t second)
    (adm : admissionOf m = admissionOf s ∨ admissionOf t = admissionOf m) :
    (∀ o, QueuePurged [admissionOf s, admissionOf t] (output s o).queue (output t o).queue)
      ∧ (first ∨ second → PassedAdmitted t t.outA ∧ PassedAdmitted t t.outB) := by
  refine ⟨fun o => ?_, fun raised => ?_⟩
  · have middle : QueuePurged [admissionOf s, admissionOf t] (output s o).queue (output m o).queue :=
      (QueuePurged.refl _ _).trans (h.queue o) fun a ha n => by
        obtain rfl := List.mem_singleton.mp ha
        rcases adm with e | e
        · exact ⟨_, List.mem_cons_self, congrFun e n⟩
        · exact ⟨_, List.mem_cons_of_mem _ List.mem_cons_self, (congrFun e n).symm⟩
    exact middle.trans (k.queue o) fun a ha n => ⟨a, List.mem_cons_of_mem _ ha, rfl⟩
  · by_cases again : second
    · exact k.admitted again
    · obtain ⟨outA, outB, e⟩ := k.kept again
      obtain ⟨a, b⟩ := h.admitted (raised.resolve_right again)
      unfold PassedAdmitted
      rw [outA, outB, e]
      exact ⟨a, b⟩

theorem windowEvent_admissionOf (s : State) : admissionOf (windowEvent s) = admissionOf s := by
  rcases windowEvent_cases s with ⟨_, e⟩ | ⟨_, _, e⟩ | ⟨_, _, e⟩ <;> rw [e] <;> rfl

theorem windowEvent_purging {s : State} (hrun : running s = true) :
    Purging s (windowEvent s) (crossesEdge s.lock.membership (membershipNow s) = true) := by
  rcases windowEvent_cases s with ⟨h, _⟩ | ⟨_, crosses, e⟩ | ⟨_, stays, e⟩
  · rw [hrun] at h
    cases h
  · rw [e]
    refine ⟨fun o => ?_, fun _ => purge_admitted _, fun h => absurd crosses h⟩
    cases o
    · exact (OutputPurged.single _ s.outA).queue
    · exact (OutputPurged.single _ s.outB).queue
  · rw [e]
    exact .of_kept (by simp [stays]) rfl rfl rfl

/-- R169: a commit of the Service Table purges the queues under the new rows. -/
theorem serviceCommitted_purging {s made : State} {raised : Prop} (h : raised) (outA : made.outA = s.outA)
    (outB : made.outB = s.outB) : Purging s (serviceCommitted made) raised := by
  have purged (out : Output) (hasRow : Nat → Bool) :
      QueuePurged [admissionOf made] out.queue ((out.rowLost hasRow).purged (admissionOf made)).queue :=
    Output.rowLost_queue hasRow out ▸ (OutputPurged.single (admissionOf made) (out.rowLost hasRow)).queue
  refine ⟨fun o => ?_, fun _ => ⟨fun _ => purged_admitted _ _, fun _ => purged_admitted _ _⟩,
    fun e => absurd h e⟩
  cases o
  · show QueuePurged _ s.outA.queue _
    rw [← outA]
    exact purged made.outA _
  · show QueuePurged _ s.outB.queue _
    rw [← outB]
    exact purged made.outB _

/-- R66, R162: the Tariff Store's commit reaches neither the outputs nor the admission. -/
theorem activateIfReached_tariff_gate (s : State) : (activateIfReached .tariff s).outA = s.outA
    ∧ (activateIfReached .tariff s).outB = s.outB
    ∧ admissionOf (activateIfReached .tariff s) = admissionOf s := by
  unfold activateIfReached
  split
  · rcases commit_cases .tariff s with ⟨_, e⟩ | ⟨_, _, _, _, rfl, ⟨_, e⟩ | ⟨h, _⟩⟩
    · rw [e]
      exact ⟨rfl, rfl, rfl⟩
    · rw [e]
      exact ⟨rfl, rfl, rfl⟩
    · cases h
  · exact ⟨rfl, rfl, rfl⟩

theorem activateIfReached_service_purging (s : State) :
    Purging s (activateIfReached .service s) (activates s .service = true) := by
  cases h : activates s .service with
  | false =>
    rw [activateIfReached_of_not h]
    exact .of_kept (by simp) rfl rfl rfl
  | true =>
    obtain ⟨_, _, _, stage, _⟩ := waiting_of_activates h
    rw [activateIfReached_of_activates h]
    rcases commit_cases .service s with ⟨empty, _⟩ | ⟨_, _, _, _, rfl, ⟨h, _⟩ | ⟨_, e⟩⟩
    · rw [stage] at empty
      cases empty
    · cases h
    · rw [e]
      exact serviceCommitted_purging rfl rfl rfl

theorem loaderEvent_purging (s : State) : Purging s (loaderEvent s) (activates s .service = true) := by
  obtain ⟨outA, outB, adm⟩ := activateIfReached_tariff_gate (activateIfReached .service s)
  have service := activateIfReached_service_purging s
  refine ⟨fun o => ?_, fun raised => ?_, fun quiet => ?_⟩
  · have same : output (loaderEvent s) o = output (activateIfReached .service s) o := by
      cases o
      · exact outA
      · exact outB
    rw [same, loaderEvent, adm]
    exact service.queue o
  · unfold PassedAdmitted loaderEvent
    rw [outA, outB, adm]
    exact service.admitted raised
  · obtain ⟨a, b, e⟩ := service.kept quiet
    exact ⟨outA.trans a, outB.trans b, adm.trans e⟩

/-! ### The tables, the keys and the alerts under the reactions (R66, R83) -/

/-- R66, R67, R83: what the Table Loader's reaction to a time event leaves of the machines, the key slots and
the alerts. -/
structure Loaded (s t : State) : Prop where
  committed : ∀ tb g rows due, (machine s tb).stage = .waiting g rows due →
    (machine s tb).commitDue = false → reached s.time.building due = true →
    machine t tb = { machine s tb with activeGen := g, active := rows, stage := .idle }
      ∧ t.alerts.isLatched .tableCommitted = true
  kept : ∀ tb, activates s tb = false → machine t tb = machine s tb
  flushed : activates s .service = true →
    SlotsFlushed (fun k => slotOk t k = true) s.keys.slots t.keys.slots
  keys : activates s .service = false → t.keys = s.keys
  latched : ∀ src, src ≠ .tableCommitted → t.alerts.isLatched src = s.alerts.isLatched src
  alerts : (∀ tb, activates s tb = false) → t.alerts = s.alerts

/-- R66, R79: the parts of which `Loaded` speaks agree. -/
structure LoaderAgrees (s t : State) : Prop where
  svc : t.svc = s.svc
  tar : t.tar = s.tar
  keys : t.keys = s.keys
  alerts : t.alerts = s.alerts
  building : t.time.building = s.time.building
  slotOk : slotOk t = slotOk s

theorem LoaderAgrees.refl (s : State) : LoaderAgrees s s := ⟨rfl, rfl, rfl, rfl, rfl, rfl⟩

theorem LoaderAgrees.machine {s t : State} (h : LoaderAgrees s t) (tb : Table) :
    machine t tb = machine s tb := by
  cases tb
  · exact h.svc
  · exact h.tar

theorem LoaderAgrees.activates {s t : State} (h : LoaderAgrees s t) (tb : Table) :
    activates t tb = activates s tb := activates_congr (h.machine tb) h.building

theorem Loaded.congr {s t s' t' : State} (h : Loaded s t) (before : LoaderAgrees s s')
    (after : LoaderAgrees t t') : Loaded s' t' where
  committed tb := by
    rw [before.machine, before.building, after.machine, after.alerts]
    exact h.committed tb
  kept tb := by
    rw [before.machine, before.activates, after.machine]
    exact h.kept tb
  flushed := by
    rw [before.activates, before.keys, after.keys, after.slotOk]
    exact h.flushed
  keys := by
    rw [before.activates, before.keys, after.keys]
    exact h.keys
  latched := by
    rw [before.alerts, after.alerts]
    exact h.latched
  alerts := by
    simp only [before.activates, before.alerts, after.alerts]
    exact h.alerts

theorem windowEvent_agrees (s : State) : LoaderAgrees s (windowEvent s) := by
  rcases windowEvent_cases s with ⟨_, e⟩ | ⟨_, _, e⟩ | ⟨_, _, e⟩ <;> rw [e] <;>
    exact ⟨rfl, rfl, rfl, rfl, rfl, rfl⟩

theorem evalBillingDay_agrees (s : State) : LoaderAgrees s (evalBillingDay s) := by
  obtain ⟨_, _, e, _⟩ := evalBillingDay_ret s
  rw [e]
  exact ⟨rfl, rfl, rfl, rfl, rfl, rfl⟩

/-- R67: a commit latches TABLE COMMITTED alone. -/
theorem activateIfReached_latched (tb : Table) (s : State) {src : AlertSource} (h : src ≠ .tableCommitted) :
    (activateIfReached tb s).alerts.isLatched src = s.alerts.isLatched src := by
  unfold activateIfReached
  split
  · rename_i activated
    obtain ⟨_, _, _, stage, _⟩ := waiting_of_activates activated
    rw [(commit_of_waiting stage).2, AlertUnit.isLatched_latch, decide_eq_false h, Bool.or_false]
  · rfl

/-- R66: the Tariff Store's commit reaches neither the key slots nor the slot test. -/
theorem activateIfReached_tariff_keys (s : State) : (activateIfReached .tariff s).keys = s.keys
    ∧ slotOk (activateIfReached .tariff s) = slotOk s := by
  unfold activateIfReached
  split
  · rcases commit_cases .tariff s with ⟨_, e⟩ | ⟨_, _, _, _, rfl, ⟨_, e⟩ | ⟨h, _⟩⟩
    · rw [e]
      exact ⟨rfl, rfl⟩
    · rw [e]
      exact ⟨rfl, rfl⟩
    · cases h
  · exact ⟨rfl, rfl⟩

/-- R83: a commit of the Service Table empties the slots that fail the slot test under the new rows. -/
theorem serviceCommitted_flushed (s : State) : SlotsFlushed (fun k => slotOk (serviceCommitted s) k = true)
    s.keys.slots (serviceCommitted s).keys.slots :=
  flushSlots_flushed (fun _ => Iff.rfl) s.keys.slots

theorem commit_service_flushed {s : State} (h : activates s .service = true) :
    SlotsFlushed (fun k => slotOk (commit .service s) k = true) s.keys.slots
      (commit .service s).keys.slots := by
  obtain ⟨_, _, _, stage, _⟩ := waiting_of_activates h
  rcases commit_cases .service s with ⟨empty, _⟩ | ⟨_, _, _, _, rfl, ⟨h, _⟩ | ⟨_, e⟩⟩
  · rw [stage] at empty
    cases empty
  · cases h
  · rw [e]
    exact serviceCommitted_flushed _

theorem loaderEvent_of_none {s : State} (h : ∀ tb, activates s tb = false) : loaderEvent s = s := by
  rw [loaderEvent, activateIfReached_of_not (h .service), activateIfReached_of_not (h .tariff)]

theorem loaderEvent_loaded (s : State) : Loaded s (loaderEvent s) where
  committed _ _ _ _ := loaderEvent_committed
  kept _ := machine_loaderEvent_of_not
  flushed h := by
    obtain ⟨keys, slotOk⟩ := activateIfReached_tariff_keys (activateIfReached .service s)
    rw [loaderEvent, keys, slotOk, activateIfReached_of_activates h]
    exact commit_service_flushed h
  keys h := by
    rw [loaderEvent, (activateIfReached_tariff_keys _).1, activateIfReached_of_not h]
  latched _ h := (activateIfReached_latched .tariff _ h).trans (activateIfReached_latched .service s h)
  alerts h := by rw [loaderEvent_of_none h]

/-! ### The time step event (R46, R47) -/

/-- R46, R47: the fields that the consumers of the time step event can reach. -/
def ByTimeStep (s t : State) : Prop :=
  t = { s with
    time := t.time
    ret := t.ret
    lock := t.lock
    svc := t.svc
    tar := t.tar
    keys := { s.keys with slots := t.keys.slots }
    outA := s.outA.regated t.outA
    outB := s.outB.regated t.outB
    alerts := { s.alerts with latched := t.alerts.latched }
    model := t.model }

theorem ByTimeStep.trans {s t u : State} (h : ByTimeStep s t) (k : ByTimeStep t u) : ByTimeStep s u := by
  refine Eq.trans k ?_
  rw [h]
  rfl

theorem ByLoader.byTimeStep {s t : State} (h : ByLoader s t) : ByTimeStep s t := by
  unfold ByTimeStep
  rw [h]
  rfl

theorem windowEvent_byTimeStep (s : State) : ByTimeStep s (windowEvent s) := by
  rcases windowEvent_cases s with ⟨_, e⟩ | ⟨_, _, e⟩ | ⟨_, _, e⟩ <;> rw [e] <;> rfl

theorem evalBillingDay_byTimeStep (s : State) : ByTimeStep s (evalBillingDay s) := by
  obtain ⟨_, _, e, _⟩ := evalBillingDay_ret s
  rw [e]
  rfl

/-- R46, R47: `t` is `s`, the part with the new building time, once the Lock Unit and the Table Loader have
taken the time step event. -/
structure TimeStepped (s t : State) : Prop where
  frame : ByTimeStep s t
  time : t.time = s.time
  lock : t.lock = { s.lock with membership := membershipNow t }
  loaded : Loaded s t
  queue : ∀ o, QueuePurged [admissionOf s, admissionOf t] (output s o).queue (output t o).queue
  admitted : crossesEdge s.lock.membership t.lock.membership = true ∨ activates s .service = true →
    PassedAdmitted t t.outA ∧ PassedAdmitted t t.outB
  quiet : (∀ tb, activates s tb = false) →
    (crossesEdge s.lock.membership t.lock.membership = true →
      t.outA = s.outA.purged (admissionOf t) ∧ t.outB = s.outB.purged (admissionOf t))
    ∧ (crossesEdge s.lock.membership t.lock.membership = false → t.outA = s.outA ∧ t.outB = s.outB)

/-- R120, R167: with no stage to commit, the Lock Unit's reaction alone reaches the outputs. -/
theorem windowEvent_outputs {s : State} (hrun : running s = true) :
    (crossesEdge s.lock.membership (membershipNow s) = true →
      (windowEvent s).outA = s.outA.purged (admissionOf (windowEvent s))
      ∧ (windowEvent s).outB = s.outB.purged (admissionOf (windowEvent s)))
    ∧ (crossesEdge s.lock.membership (membershipNow s) = false →
      (windowEvent s).outA = s.outA ∧ (windowEvent s).outB = s.outB) := by
  rw [windowEvent_admissionOf]
  refine ⟨fun crosses => ?_, fun stays => ?_⟩
  · rw [windowEvent_of_running hrun, if_pos ((crossesEdge_iff _ _).mp crosses)]
    exact ⟨rfl, rfl⟩
  · rw [windowEvent_of_running hrun, if_neg fun e => by simp [(crossesEdge_iff _ _).mpr e] at stays]
    exact ⟨rfl, rfl⟩

theorem loaderEvent_windowEvent_stepped {s : State} (hrun : running s = true) :
    TimeStepped s (loaderEvent (windowEvent s)) := by
  have agrees := windowEvent_agrees s
  have loader := loaderEvent_byLoader (windowEvent s)
  have time : (loaderEvent (windowEvent s)).time = s.time :=
    ((windowEvent_untouched s).trans (loaderEvent_untouched _)).time
  have ret : (loaderEvent (windowEvent s)).ret = s.ret := loader.ret.trans (windowEvent_byLock s).ret
  have now : membershipNow (loaderEvent (windowEvent s)) = membershipNow s :=
    membershipNow_congr (congrArg _ ret) (congrArg _ ret) (congrArg _ time)
  have lock : (loaderEvent (windowEvent s)).lock = { s.lock with membership := membershipNow s } :=
    loader.lock.trans (windowEvent_lock hrun)
  obtain ⟨queue, admitted⟩ := (windowEvent_purging hrun).both (loaderEvent_purging (windowEvent s))
    (.inl (windowEvent_admissionOf s))
  refine ⟨(windowEvent_byTimeStep s).trans loader.byTimeStep, time, now ▸ lock,
    (loaderEvent_loaded _).congr ?_ (.refl _), queue, ?_, fun idle => ?_⟩
  · exact ⟨agrees.svc.symm, agrees.tar.symm, agrees.keys.symm, agrees.alerts.symm, agrees.building.symm,
      agrees.slotOk.symm⟩
  · rw [lock, ← agrees.activates]
    exact admitted
  · rw [lock, loaderEvent_of_none fun tb => (agrees.activates tb).trans (idle tb)]
    exact windowEvent_outputs hrun

theorem windowEvent_loaderEvent_stepped {s : State} (hrun : running s = true) :
    TimeStepped s (windowEvent (loaderEvent s)) := by
  have loader := loaderEvent_byLoader s
  have still : running (loaderEvent s) = true := (loaderEvent_untouched s).running.trans hrun
  have time : (windowEvent (loaderEvent s)).time = s.time :=
    ((loaderEvent_untouched s).trans (windowEvent_untouched _)).time
  have now : membershipNow (loaderEvent s) = membershipNow s :=
    membershipNow_congr (congrArg _ loader.ret) (congrArg _ loader.ret)
      (congrArg _ (loaderEvent_untouched s).time)
  have same : membershipNow (windowEvent (loaderEvent s)) = membershipNow (loaderEvent s) :=
    membershipNow_congr (congrArg _ (windowEvent_byLock _).ret) (congrArg _ (windowEvent_byLock _).ret)
      (congrArg _ (windowEvent_untouched _).time)
  have lock : (windowEvent (loaderEvent s)).lock = { s.lock with membership := membershipNow s } := by
    rw [windowEvent_lock still, loader.lock, now]
  have window := windowEvent_purging still
  rw [loader.lock, now] at window
  obtain ⟨queue, admitted⟩ := (loaderEvent_purging s).both window (.inr (windowEvent_admissionOf _))
  refine ⟨loader.byTimeStep.trans (windowEvent_byTimeStep _), time, ?_,
    (loaderEvent_loaded s).congr (.refl _) (windowEvent_agrees _), queue, ?_, fun idle => ?_⟩
  · rw [lock, same, now]
  · rw [lock, or_comm]
    exact admitted
  · rw [lock, loaderEvent_of_none idle]
    exact windowEvent_outputs hrun

/-- R140: the billing day's evaluation keeps to what the others have left. -/
theorem TimeStepped.evaluated {s t : State} (h : TimeStepped s t) : TimeStepped s (evalBillingDay t) := by
  obtain ⟨day, spent, e, _⟩ := evalBillingDay_ret t
  have agrees := evalBillingDay_agrees t
  have frame := h.frame.trans (evalBillingDay_byTimeStep t)
  rw [e] at agrees frame ⊢
  exact ⟨frame, h.time, h.lock, h.loaded.congr (.refl s) agrees, h.queue, h.admitted, h.quiet⟩

/-! ### The adoption of a time mark (R44, R45) -/

theorem readTimeMark_eq {payload : List Byte} {mark : BuildingTime} (h : readTimeMark payload = some mark) :
    mark = { day := BitVec.ofNat 16 (field payload 0 2), second := field payload 2 4 } := by
  simp only [readTimeMark, Option.ite_none_right_eq_some, Option.some.injEq] at h
  exact h.2.symm

theorem exec_timeMark_of_read {s : State} {q : StampedUnit} {mark : BuildingTime}
    (taken : FeedTakes s .timeMark q) (h : readTimeMark q.unit.payload = some mark) :
    exec .timeMark s = .next (adoptTime mark (afterFeed s)) := by
  refine congrArg Host.Outcome.next ((onFeed_of_taken taken _).trans ?_)
  simp only [h]

theorem running_afterFeed {s : State} {row : FeedRow} {q : StampedUnit} (taken : FeedTakes s row q) :
    running (afterFeed s) = true := by
  have still : running (afterFeed s) = running s := (commitsDue_untouched s).running
  rw [still]
  by_contra idle
  cases (heads_of_not_running (Bool.eq_false_iff.mpr idle)).1.symm.trans taken.1

theorem adoptTime_of_equal {mark : BuildingTime} {s : State} (h : s.time.building = some mark) :
    adoptTime mark s = s := if_pos h

/-- R45: the part with a mark adopted, before any consumer takes the time step event. -/
def markAdopted (mark : BuildingTime) (s : State) : State :=
  { usedChoice s with time := { s.time with building := some mark } }

/-- R45 to R47: the adoption of a mark where no consumer owes a second event. -/
theorem adoptTime_stepped {mark : BuildingTime} {s : State} (hrun : running s = true)
    (new : s.time.building ≠ some mark) (due : s.model.due = []) :
    ∃ t, TimeStepped (markAdopted mark s) t ∧ t.ret = s.ret ∧ adoptTime mark s = evalBillingDay t := by
  have still : running (markAdopted mark s) = true := hrun
  have folded : adoptTime mark s = (inOrder (nextChoice s).order [.lock, .meter, .loader]).foldl
      (fun u c => takeStep c u) (markAdopted mark s) := by
    simp only [adoptTime, if_neg new, settle_of_none due]
    rfl
  rcases foldl_takeStep_cases (inOrder_perm (nextChoice s).order _) (markAdopted mark s) with e | e
  · exact ⟨_, loaderEvent_windowEvent_stepped still,
      (loaderEvent_byLoader _).ret.trans (windowEvent_byLock _).ret, folded.trans e⟩
  · exact ⟨_, windowEvent_loaderEvent_stepped still,
      (windowEvent_byLock _).ret.trans (loaderEvent_byLoader _).ret, folded.trans e⟩

/-- R140: the retained area after an evaluation of the billing day. -/
theorem evalBillingDay_ret_congr {s t : State} (ret : t.ret = s.ret) (time : t.time = s.time) :
    (evalBillingDay t).ret = (evalBillingDay s).ret := by
  obtain ⟨day, spent, h⟩ := evalBillingDay_onDay s
  rw [h t ret time, h s rfl rfl, State.onDay, ret]
  rfl

/-- R83: only a commit of the Service Table changes its machine. -/
theorem Loaded.svc_ne_iff {s t : State} (h : Loaded s t) : t.svc ≠ s.svc ↔ activates s .service = true := by
  refine ⟨fun changed => ?_, fun activated same => ?_⟩
  · by_contra idle
    exact changed (h.kept .service (Bool.eq_false_iff.mpr idle))
  · obtain ⟨g, rows, due, stage, undecided, reached⟩ := waiting_of_activates activated
    have after := congrArg TableMachine.stage (h.committed .service g rows due stage undecided reached).1
    exact Stage.noConfusion (stage.symm.trans ((congrArg TableMachine.stage same).symm.trans after))

end Sys2Proof.Machine

open Sys2Proof Sys2Proof.Machine in
/-- Settles O22: the part after the mark is `TimeStepped`, whichever order the free choice gives. -/
theorem timeMarkIsAdopted : Obligations.TimeMarkIsAdopted := by
  intro s q taken mark operands p
  have run := exec_timeMark_of_read taken operands
  refine ⟨readTimeMark_eq operands, fun h => run.trans (congrArg _ (adoptTime_of_equal h)), fun new => ?_⟩
  have untouched := adoptTime_untouched mark p
  refine ⟨adoptTime mark p, run, untouched.time, untouched.power, untouched.install, untouched.readSig,
    untouched.merge, untouched.results, untouched.port, untouched.emergency, untouched.pending,
    fun due => ?_⟩
  intro stays crosses
  obtain ⟨u, stepped, ret, adopted⟩ := adoptTime_stepped (running_afterFeed taken) new due
  have final : TimeStepped (markAdopted mark p) (adoptTime mark p) := adopted ▸ stepped.evaluated
  have before : admissionOf { p with time := (adoptTime mark p).time } = admissionOf (markAdopted mark p) := by
    rw [final.time]
    rfl
  have same (tb : Table) : machine (markAdopted mark p) tb = machine p tb := by cases tb <;> rfl
  have idle (tb : Table) (h : stays tb) : activates (markAdopted mark p) tb = false :=
    activates_of_stays fun g rows due stage => h g rows due (same tb ▸ stage)
  have commits := final.loaded.svc_ne_iff
  have crossed := crossesEdge_iff p.lock.membership (adoptTime mark p).lock.membership
  refine ⟨?ret, final.lock, fun tb g rows due stage undecided h => ?committed,
    fun tb h => (final.loaded.kept tb (idle tb h)).trans (same tb), fun h => final.loaded.flushed (commits.mp h),
    fun h => final.loaded.keys (Bool.eq_false_iff.mpr fun e => commits.mpr e h),
    fun o => before ▸ final.queue o, fun h => final.admitted (h.imp crossed.mpr commits.mp),
    final.loaded.latched, fun h => ?quiet, ?frame⟩
  case ret =>
    rw [adopted]
    exact evalBillingDay_ret_congr ret stepped.time
  case committed =>
    rw [← same] at stage undecided ⊢
    exact final.loaded.committed tb g rows due stage undecided h
  case quiet =>
    obtain ⟨purged, kept⟩ := final.quiet fun tb => idle tb (h tb)
    exact ⟨final.loaded.kept .service (idle .service (h .service)),
      final.loaded.alerts fun tb => idle tb (h tb), fun e => purged (crossed.mpr e),
      fun e => kept (Bool.eq_false_iff.mpr fun c => e (crossed.mp c))⟩
  case frame => exact final.frame
end

section
/-!
The registers of 31 stages: the signature register and the keystream register (O18).
-/
namespace Sys2Proof.Machine

/-- R68: the first stage takes the exclusive OR of the input bit and stages 31 and 28. -/
theorem sigStep_first (r : Register31) (input : Bool) :
    (sigStep r input).getLsbD 0 = (input ^^ r.getLsbD 30 ^^ r.getLsbD 27) := by
  simp [sigStep]

/-- R68: every stage but the last moves up by one. -/
theorem sigStep_later (r : Register31) (input : Bool) {k : Nat} (hk : k < 30) :
    (sigStep r input).getLsbD (k + 1) = r.getLsbD k := by
  have moved : (r <<< 1).getLsbD (k + 1) = r.getLsbD k := by simp [BitVec.getLsbD_shiftLeft]; omega
  have noInput (b : Bool) : ((BitVec.ofBool b).setWidth 31).getLsbD (k + 1) = false := by simp
  rw [sigStep, BitVec.getLsbD_or, moved, noInput, Bool.or_false]

/-- R68: the signature of an image with one more byte. -/
theorem signature_append_byte (bytes : List Byte) (b : Byte) :
    signature (bytes ++ [b]) = sigByte (signature bytes) b := by
  rw [signature, List.foldl_append, List.foldl_cons, List.foldl_nil, ← signature]

end Sys2Proof.Machine

open Sys2Proof.Machine in
/-- Settles O18: the step stage by stage; the byte and the image are folds of it. -/
theorem signatureRegisterSteps : Obligations.SignatureRegisterSteps :=
  ⟨by decide, fun r input => ⟨sigStep_first r input, fun _ hk => sigStep_later r input hk⟩, fun _ _ => rfl, rfl,
    signature_append_byte, fun _ => rfl⟩
end

section
/-!
The machines of the tables: activation times, the table directives, checks and commits (O24 to O27).
-/
namespace Sys2Proof.Machine

/-! ### Activation times (R65) -/

theorem atOrPast_iff (now due : BuildingTime) : now.atOrPast due = true ↔
    (1 ≤ (now.day.toNat + 65536 - due.day.toNat) % 65536
      ∧ (now.day.toNat + 65536 - due.day.toNat) % 65536 ≤ 32767)
    ∨ ((now.day.toNat + 65536 - due.day.toNat) % 65536 = 0 ∧ due.second ≤ now.second) := by
  have days : (now.day - due.day).toNat = (now.day.toNat + 65536 - due.day.toNat) % 65536 := by bv_omega
  simp only [BuildingTime.atOrPast, days]
  generalize (now.day.toNat + 65536 - due.day.toNat) % 65536 = d
  split
  · rename_i same
    simp [same]
  · rename_i other
    simp only [decide_eq_true_eq]
    omega

/-! ### The machine of a table -/

@[simp] theorem machine_withMachine (t : Table) (m : TableMachine) (s : State) :
    machine (withMachine t m s) t = m := by
  cases t <;> rfl

@[simp] theorem machine_usedChoice (t : Table) (s : State) : machine (usedChoice s) t = machine s t := by
  cases t <;> rfl

@[simp] theorem withMachine_self (t : Table) (s : State) : withMachine t (machine s t) s = s := by
  cases t <;> rfl

@[simp] theorem withMachine_withMachine (t : Table) (m m' : TableMachine) (s : State) :
    withMachine t m (withMachine t m' s) = withMachine t m s := by
  cases t <;> rfl

/-! ### The table directives (R57 to R59) -/

/-- R57: the stages that a TABLE OPEN of a generation leaves alone. -/
theorem holdsClosed_iff (stage : Stage) (g : Nat) : stage.holdsClosed g = true ↔
    (∃ rows e a, stage = .checking g rows e a) ∨ ∃ rows a, stage = .waiting g rows a := by
  cases stage <;> simp [Stage.holdsClosed]

theorem exec_tableOpen_of_taken {s : State} {q : StampedUnit} {t : Table} {g : Nat}
    (taken : FeedTakes s .tableOpen q) (operands : readTableOpen q.unit.payload = some (t, g)) :
    exec .tableOpen s =
      .next (withMachine t (openTable t g (machine (afterFeed s) t)) (afterFeed s)) :=
  congrArg Host.Outcome.next (onDirective_of_taken taken operands _)

theorem exec_tableRows_of_taken {s : State} {q : StampedUnit} {x : RowsOperands}
    (taken : FeedTakes s .tableRows q) (operands : readTableRows q.unit.payload = some x) :
    exec .tableRows s =
      .next (withMachine x.table (rowsInto x (machine (afterFeed s) x.table)) (afterFeed s)) :=
  congrArg Host.Outcome.next (onDirective_of_taken taken operands _)

theorem exec_tableClose_of_taken {s : State} {q : StampedUnit} {x : CloseOperands}
    (taken : FeedTakes s .tableClose q) (operands : readTableClose q.unit.payload = some x) :
    exec .tableClose s =
      .next (withMachine x.table (closeTable x (machine (afterFeed s) x.table)) (afterFeed s)) :=
  congrArg Host.Outcome.next (onDirective_of_taken taken operands _)

theorem openTable_of_kept {t : Table} {g : Nat} {m : TableMachine}
    (h : g = m.activeGen ∨ (∃ rows e a, m.stage = .checking g rows e a) ∨ ∃ rows a, m.stage = .waiting g rows a) :
    openTable t g m = m :=
  if_pos (h.imp_right (holdsClosed_iff m.stage g).mpr)

theorem openTable_of_not_kept {t : Table} {g : Nat} {m : TableMachine}
    (h : ¬(g = m.activeGen ∨ (∃ rows e a, m.stage = .checking g rows e a)
      ∨ ∃ rows a, m.stage = .waiting g rows a)) :
    openTable t g m = { m with stage := .filling g (vacantTable t) } :=
  if_neg fun c => h (c.imp_right (holdsClosed_iff m.stage g).mp)

theorem rowsInto_of_filling {x : RowsOperands} {m : TableMachine} {rows : List Image}
    (h : m.stage = .filling x.generation rows) :
    rowsInto x m = { m with stage := .filling x.generation (writeRows rows x.first x.rows) } := by
  simp [rowsInto, h]

theorem rowsInto_of_other {x : RowsOperands} {m : TableMachine}
    (h : ∀ rows, m.stage ≠ .filling x.generation rows) : rowsInto x m = m := by
  unfold rowsInto
  split
  · rename_i g rows stage
    refine if_neg fun same => h rows ?_
    rw [stage, same]
  all_goals rfl

theorem closeTable_of_filling {x : CloseOperands} {m : TableMachine} {rows : List Image}
    (h : m.stage = .filling x.generation rows) : closeTable x m =
      { m with stage := .checking x.generation rows x.expected x.activation, sigReg := sigSeed } := by
  simp [closeTable, h]

theorem closeTable_of_other {x : CloseOperands} {m : TableMachine}
    (h : ∀ rows, m.stage ≠ .filling x.generation rows) : closeTable x m = m := by
  unfold closeTable
  split
  · rename_i g rows stage
    refine if_neg fun same => h rows ?_
    rw [stage, same]
  all_goals rfl

end Sys2Proof.Machine

open Sys2Proof.Machine in
/-- Settles O24: the difference of the days decides, and on one day the second of day. -/
theorem activationTimeIsReached : Obligations.ActivationTimeIsReached :=
  fun due => ⟨rfl, fun now => atOrPast_iff now due⟩

open Sys2Proof.Machine in
/-- Settles O25: each directive by the stage that its machine is in. -/
theorem tableDirectivesMoveTheStage : Obligations.TableDirectivesMoveTheStage := by
  intro s q p
  refine ⟨fun t g taken operands => ?opened, fun x taken operands => ?rows, fun x taken operands => ?closed⟩
  case opened =>
    intro kept
    rw [exec_tableOpen_of_taken taken operands]
    exact ⟨fun h => by rw [openTable_of_kept h, withMachine_self], fun h => by rw [openTable_of_not_kept h]⟩
  case rows =>
    rw [exec_tableRows_of_taken taken operands]
    exact ⟨fun rows h => by rw [rowsInto_of_filling h]; rfl,
      fun h => by rw [rowsInto_of_other h, withMachine_self]⟩
  case closed =>
    rw [exec_tableClose_of_taken taken operands]
    exact ⟨fun rows h => by rw [closeTable_of_filling h]; rfl,
      fun h => by rw [closeTable_of_other h, withMachine_self]⟩
end

section
/-!
The end of a stage check, with the validation of the stages (O26).
-/
namespace Sys2Proof.Machine

/-! ### The validation of a Service Table stage (R62) -/

/-- §11.4: the access kind by the number that its code is. -/
theorem accessKindOf_eq (code : Byte) : accessKindOf code =
    if code.toNat = 1 then .openToAll else if code.toNat = 2 then .package
    else if code.toNat = 3 then .film else .noMeaning := by
  simp only [accessKindOf, byte_eq_iff]
  rfl

theorem accessKindOf_eq_film_iff (code : Byte) : accessKindOf code = .film ↔ code.toNat = 3 := by
  rw [accessKindOf_eq]
  split
  · rename_i h; simp [h]
  · split
    · rename_i h; simp [h]
    · split
      · rename_i h; simp [h]
      · rename_i h; simp [h]

/-- R62: the fields of a FILM row are 0 in a row image of another kind. -/
def FilmFieldsZero (image : Image) : Prop :=
  field image 6 2 = 0 ∧ (byteAt image 8).toNat = 0 ∧ (byteAt image 9).toNat = 0 ∧ field image 10 2 = 0
    ∧ field image 12 4 = 0

/-- R62: the fields that the access kind of a row image allows. -/
def AccessFieldsSound (image : Image) : Prop :=
  ((byteAt image 2).toNat = 1 ∧ (byteAt image 4).toNat = 0 ∧ FilmFieldsZero image)
  ∨ ((byteAt image 2).toNat = 2 ∧ (byteAt image 4).toNat ≤ 31 ∧ FilmFieldsZero image)
  ∨ ((byteAt image 2).toNat = 3 ∧ (byteAt image 4).toNat = 0 ∧ field image 6 2 ≠ 0
    ∧ (byteAt image 8).toNat ≤ 31 ∧ 1 ≤ (byteAt image 9).toNat ∧ (byteAt image 9).toNat ≤ 8
    ∧ field image 10 2 ≤ 900 ∧ field image 12 4 ≤ 999999)

theorem all_zero_iff (image : Image) : image.all (· == 0) = true ↔ ∀ b ∈ image, b = 0 := by simp

theorem rowImageOk_iff (image : Image) : rowImageOk image = true ↔
    (field image 0 2 = 0 ∧ ∀ b ∈ image, b = 0)
    ∨ (1 ≤ field image 0 2 ∧ field image 0 2 ≤ 4079 ∧ (byteAt image 3).toNat ≤ 7
      ∧ (byteAt image 5).toNat = 0 ∧ AccessFieldsSound image) := by
  unfold rowImageOk
  dsimp only
  by_cases vacant : (rowOf image).label = 0
  · have label : field image 0 2 = 0 := vacant
    simp [vacant, label]
  · have label : field image 0 2 ≠ 0 := vacant
    have kind : (rowOf image).access = _ := accessKindOf_eq (byteAt image 2)
    rw [if_neg vacant, kind]
    simp only [Bool.and_eq_true, isServiceLabel_iff, mbz_succ, mbz_zero, and_true, decide_eq_true_eq, label,
      false_and, false_or, and_assoc, AccessFieldsSound]
    by_cases opened : (byteAt image 2).toNat = 1
    · simp only [opened, ↓reduceIte, Bool.and_eq_true, beq_iff_eq, and_assoc, FilmFieldsZero, true_and,
        OfNat.one_ne_ofNat, false_and, or_self, or_false]
      rfl
    · by_cases packaged : (byteAt image 2).toNat = 2
      · simp only [packaged, OfNat.ofNat_ne_one, ↓reduceIte, Bool.and_eq_true, decide_eq_true_eq, beq_iff_eq,
          and_assoc, FilmFieldsZero, false_and, true_and, Nat.reduceEqDiff, or_false, false_or]
        rfl
      · by_cases film : (byteAt image 2).toNat = 3
        · simp only [film, Nat.reduceEqDiff, ↓reduceIte, Bool.and_eq_true, beq_iff_eq, bne_iff_ne,
            decide_eq_true_eq, and_assoc, false_and, true_and, false_or]
          rfl
        · simp [opened, packaged, film]

/-- R62: the labels and the films that must differ, read of the row images. -/
theorem liveRows_fields (rows : List Image) :
    ((rows.map rowOf).filter fun r => r.label != 0).map (·.label) =
        (rows.map fun image => field image 0 2).filter (fun n => decide (n ≠ 0))
      ∧ (((rows.map rowOf).filter fun r => r.label != 0).filter fun r => r.access == .film).map (·.film) =
        (rows.filter fun image => decide (field image 0 2 ≠ 0 ∧ (byteAt image 2).toNat = 3)).map
          fun image => field image 6 2 := by
  have carries (image : Image) : ((rowOf image).label != 0) = decide (field image 0 2 ≠ 0) := by
    rw [bne, beq_eq_decide, ← decide_not]
    rfl
  have film (image : Image) : ((rowOf image).access == .film) = decide ((byteAt image 2).toNat = 3) :=
    (beq_eq_decide _ _).trans (decide_eq_decide.mpr (accessKindOf_eq_film_iff _))
  simp only [List.filter_map, List.map_map, List.filter_filter, Function.comp_def, carries, film, Bool.decide_and,
    Bool.and_comm]
  exact ⟨rfl, rfl⟩

theorem stageOk_service_iff (rows : List Image) : stageOk .service rows = true ↔
    (∀ image ∈ rows, rowImageOk image = true)
    ∧ ((rows.map fun image => field image 0 2).filter (fun n => decide (n ≠ 0))).Nodup
    ∧ ((rows.filter fun image => decide (field image 0 2 ≠ 0 ∧ (byteAt image 2).toNat = 3)).map
        fun image => field image 6 2).Nodup := by
  obtain ⟨labels, films⟩ := liveRows_fields rows
  simp only [stageOk, serviceStageOk, labels, films, Bool.and_eq_true, List.all_eq_true, decide_eq_true_eq, and_assoc]

/-! ### The validation of a Tariff Store stage (R63) -/

/-- §11.4: the measure by the number that its code is. -/
theorem measureOf_eq (code : Byte) : measureOf code =
    if code.toNat = 1 then some .elapsed else if code.toNat = 2 then some .viewed else none := by
  simp only [measureOf, byte_eq_iff]
  rfl

theorem measureOf_isSome_iff (code : Byte) : (measureOf code).isSome = true ↔ code.toNat = 1 ∨ code.toNat = 2 := by
  rw [measureOf_eq]
  split
  · rename_i elapsed; simp [elapsed]
  · split
    · rename_i viewed; simp [viewed]
    · rename_i other other'; simp [other, other']

theorem stepImageOk_iff (image : Image) : stepImageOk image = true ↔
    (∀ b ∈ image, b = 0)
    ∨ (1 ≤ field image 0 4 ∧ field image 0 4 ≤ 1048575
      ∧ ((byteAt image 4).toNat = 1 ∨ (byteAt image 4).toNat = 2)
      ∧ field image 6 3 ≤ 99999 ∧ field image 9 2 ≤ 9999 ∧ (byteAt image 11).toNat = 0) := by
  simp only [stepImageOk, isVacantStep, all_zero_iff, measureOf_isSome_iff, mbz_succ, mbz_zero, and_true,
    Bool.or_eq_true, Bool.and_eq_true, decide_eq_true_eq, and_assoc]

theorem stageOk_tariff_iff (rows : List Image) :
    stageOk .tariff rows = true ↔ ∀ image ∈ rows, stepImageOk image = true := List.all_eq_true

/-! ### A commit that is decided (R67, log 6) -/

theorem decideCommit_now {t : Table} {s u : State} (h : Consumer.loader ∉ (nextChoice u).later) :
    decideCommit ((nextChoice u).later.contains .loader) t s = commit t s := by
  simp [decideCommit, h]

theorem decideCommit_later {t : Table} {s u : State} (h : Consumer.loader ∈ (nextChoice u).later) :
    decideCommit ((nextChoice u).later.contains .loader) t s =
      withMachine t { machine s t with commitDue := true } s := by
  simp [decideCommit, h]

/-! ### CHECK_COMPLETION (R64) -/

section
variable {t : Table} {s : State} {g : Nat} {rows : List Image} {expected : Nat} {activation : Option BuildingTime}

theorem exec_checkCompletion_of_failed (hlive : live s = true)
    (stage : (machine s t).stage = .checking g rows expected activation)
    (running : (machine s t).commitDue = false)
    (failed : (signature rows.flatten).toNat ≠ expected ∨ stageOk t rows = false) :
    exec (.checkCompletion t) s = .next
      (rejectStage t (recordSignature (signature rows.flatten) (machine s t)) s) := by
  have notPassed : ¬((stageSignature rows).toNat = expected ∧ stageOk t rows = true) := by
    rintro ⟨same, sound⟩
    rcases failed with differs | unsound
    · exact differs same
    · rw [sound] at unsound
      cases unsound
  show execCheckCompletion t s = _
  simp only [execCheckCompletion, stage, hlive, running, Bool.not_false, Bool.and_self, if_true, if_neg notPassed]
  rfl

/-- R64: the check has passed: the commit is decided, or waits for the activation time. -/
theorem exec_checkCompletion_of_passed (hlive : live s = true)
    (stage : (machine s t).stage = .checking g rows expected activation)
    (running : (machine s t).commitDue = false)
    (same : (signature rows.flatten).toNat = expected) (sound : stageOk t rows = true) :
    (∀ due, activation = some due → reached s.time.building due = false →
      exec (.checkCompletion t) s = .next (withMachine t
        { recordSignature (signature rows.flatten) (machine s t) with stage := .waiting g rows due } s))
    ∧ (activation = none ∨ (∃ due, activation = some due ∧ reached s.time.building due = true) →
      exec (.checkCompletion t) s = .next (decideCommit ((nextChoice s).later.contains .loader) t
        (usedChoice (withMachine t (recordSignature (signature rows.flatten) (machine s t)) s)))) := by
  have passed : (stageSignature rows).toNat = expected ∧ stageOk t rows = true := ⟨same, sound⟩
  have run (u : State) : exec (.checkCompletion t) s = .next u ↔ execCheckCompletion t s = .next u := Iff.rfl
  simp only [run, execCheckCompletion, stage, hlive, running, Bool.not_false, Bool.and_self, if_true, if_pos passed]
  refine ⟨?waits, ?decided⟩
  case waits =>
    rintro due rfl early
    simp only [early]
    rfl
  case decided =>
    rintro (rfl | ⟨due, rfl, late⟩)
    · rfl
    · simp only [late]
      rfl

end

theorem exec_checkCompletion_of_no_check {t : Table} {s : State}
    (h : live s = false ∨ (machine s t).commitDue = true
      ∨ ∀ g rows e a, (machine s t).stage ≠ .checking g rows e a) :
    exec (.checkCompletion t) s = .next s := by
  refine congrArg Host.Outcome.next ?_
  split
  · rename_i g rows e a stage
    rcases h with off | due | other
    · simp [off]
    · simp [due]
    · exact absurd stage (other g rows e a)
  all_goals rfl

end Sys2Proof.Machine

open Sys2Proof.Machine in
/-- Settles O26: the check by its outcome and by the activation time, then the two validations. -/
theorem checkCompletionDecidesTheStage : Obligations.CheckCompletionDecidesTheStage := by
  refine ⟨fun t s => ⟨fun g rows expected activation hlive stage running => ?_,
    exec_checkCompletion_of_no_check⟩, fun rows => ⟨?service, ?tariff⟩⟩
  · intro sig m
    refine ⟨exec_checkCompletion_of_failed hlive stage running, fun same sound => ?_⟩
    obtain ⟨waits, decided⟩ := exec_checkCompletion_of_passed hlive stage running same sound
    refine ⟨waits, fun h => ?_⟩
    rw [decided h]
    refine ⟨fun now => by rw [decideCommit_now now]; rfl, fun later => ?_⟩
    rw [decideCommit_later later, machine_usedChoice, machine_withMachine]
    cases t <;> rfl
  case service =>
    simp only [stageOk_service_iff, rowImageOk_iff]
    rfl
  case tariff => simp only [stageOk_tariff_iff, stepImageOk_iff]
end

section
/-!
The commit of a table, its consumers, and the rows that make it (O27).
-/
namespace Sys2Proof.Machine

/-! ### The commit (R67, R83, R169) -/

theorem commit_of_idle {t : Table} {s : State} (h : (machine s t).stage = .idle) : commit t s = s := by
  rw [commit, h]
  rfl

/-- R67: the part with the stage of the Service Table made active, before its consumers take the event. -/
def serviceMade (g : Nat) (rows : List Image) (s : State) : State :=
  { s with
    svc := { s.svc with activeGen := g, active := rows, stage := .idle, commitDue := false }
    alerts := s.alerts.latch .tableCommitted }

theorem commit_service_of_contents {s : State} {g : Nat} {rows : List Image}
    (h : s.svc.stage.contents = some (g, rows)) :
    commit .service s = serviceCommitted (serviceMade g rows s) := by
  have contents : (machine s .service).stage.contents = some (g, rows) := h
  rw [commit, contents]
  rfl

theorem commit_tariff_of_contents {s : State} {g : Nat} {rows : List Image}
    (h : s.tar.stage.contents = some (g, rows)) :
    commit .tariff s =
      { s with
        tar := { s.tar with activeGen := g, active := rows, stage := .idle, commitDue := false }
        alerts := s.alerts.latch .tableCommitted } := by
  have contents : (machine s .tariff).stage.contents = some (g, rows) := h
  rw [commit, contents]
  rfl

/-- R169: an output whose label lost its row. -/
theorem Output.rowLost_eq (s : State) (out : Output) :
    out.rowLost (fun label => (serviceRow s label).isSome) =
      if out.selected ≠ 0 ∧ serviceRow s out.selected = none then
        { out with state := .waiting, entryWait := true, last := .noService }
      else out := by
  simp only [Output.rowLost, Option.isSome_eq_false_iff, Option.isNone_iff_eq_none]

/-! ### The rows TABLE_COMMIT and TABLE_ACTIVATION (R66, R67) -/

theorem exec_tableCommit (t : Table) (s : State) :
    exec (.tableCommit t) s = .next (if live s then commitIfDue t s else s) := rfl

theorem exec_tableActivation (t : Table) (s : State) :
    exec (.tableActivation t) s = .next (if live s && activates s t then
      decideCommit ((nextChoice s).later.contains .loader) t (usedChoice s) else s) := rfl

theorem commitIfDue_of_due {t : Table} {s : State} (h : (machine s t).commitDue = true) :
    commitIfDue t s = commit t s := if_pos h

theorem commitIfDue_of_not_due {t : Table} {s : State} (h : (machine s t).commitDue = false) :
    commitIfDue t s = s := by
  simp [commitIfDue, h]

theorem activates_of_due {t : Table} {s : State} (h : (machine s t).commitDue = true) : activates s t = false := by
  unfold activates
  split
  · rw [h]
    rfl
  all_goals rfl

theorem exec_tableActivation_of_not_activates {t : Table} {s : State} (h : activates s t = false) :
    exec (.tableActivation t) s = .next s := by
  simp [exec_tableActivation, h]

theorem exec_tableActivation_of_activates {t : Table} {s : State} (hlive : live s = true)
    (h : activates s t = true) : exec (.tableActivation t) s =
      .next (decideCommit ((nextChoice s).later.contains .loader) t (usedChoice s)) := by
  simp [exec_tableActivation, hlive, h]

/-- R67: the Service Table's commit leaves the Tariff Store's machine, and whether its commit is due. -/
theorem machine_commitIfDue_of_ne {s : State} {tb other : Table} (h : other ≠ tb) :
    machine (commitIfDue tb s) other = machine s other := by
  unfold commitIfDue
  split
  · exact machine_commit_of_ne h
  · rfl

theorem commitsDue_eq (s : State) : commitsDue s =
    if s.tar.commitDue = true then commit .tariff (commitIfDue .service s) else commitIfDue .service s := by
  have tariff : machine (commitIfDue .service s) .tariff = s.tar := machine_commitIfDue_of_ne (by decide)
  rw [commitsDue, commitIfDue, tariff]

/-! ### The slot test (R79) -/

theorem holdsPackage_iff (s : State) (package : Nat) : holdsPackage s package = true ↔
    s.ret.tenancy = .occupied ∧ ∃ g, s.ret.active = some g ∧ g.packages.getLsbD package = true := by
  by_cases occupied : s.ret.tenancy = .occupied
  · cases active : s.ret.active with
    | none => simp [holdsPackage, guest, active]
    | some g => simp [holdsPackage, guest_of_occupied occupied active, occupied]
  · simp [holdsPackage, guest_of_not_occupied occupied, occupied]

theorem isBought_iff (s : State) (film : Nat) :
    isBought s film = true ↔ ∃ p ∈ s.ret.purchases, p.film = film := by
  simp [isBought]

theorem slotOk_iff (s : State) (k : KeySlot) : slotOk s k = true ↔ ∃ r, serviceRow s k.label = some r ∧
    ((r.access = .openToAll ∧ k.house = true)
    ∨ (r.access = .package ∧ k.house = false ∧ holdsPackage s r.package = true)
    ∨ (r.access = .film ∧ k.house = false ∧ isBought s r.film = true)) := by
  unfold slotOk
  cases serviceRow s k.label with
  | none => simp
  | some r => cases access : r.access <;> simp [access]

end Sys2Proof.Machine

open Sys2Proof.Machine in
/-- Settles O27: the commit of each table, the two rows by what stands due, and the slot test. -/
theorem commitMakesTheStageActive : Obligations.CommitMakesTheStageActive := by
  refine ⟨fun s g rows => commit_tariff_of_contents, fun s g rows contents => ?service,
    fun t s hlive => ?rows, fun t s => ?idle, commitsDue_eq, fun s k => ?slot⟩
  case service =>
    intro t lostRow
    have made : t = serviceCommitted (serviceMade g rows s) := commit_service_of_contents contents
    clear_value t
    subst made
    have lost (out : Output) :
        out.rowLost (fun label => (serviceRow (serviceMade g rows s) label).isSome) = lostRow out :=
      Output.rowLost_eq _ out
    exact ⟨rfl, rfl, flushSlots_flushed (fun _ => Iff.rfl) _, by rw [← lost]; rfl, by rw [← lost]; rfl, rfl⟩
  case rows =>
    refine ⟨fun due => ?_, fun undecided => ?_, fun g rows due stage undecided => ⟨fun late now => ?_,
      fun late later => ?_, fun early => ?_⟩⟩
    · rw [exec_tableCommit, if_pos hlive, commitIfDue_of_due due]
    · rw [exec_tableCommit, if_pos hlive, commitIfDue_of_not_due undecided]
    · have activated := (activates_of_waiting stage undecided).trans late
      rw [exec_tableActivation_of_activates hlive activated, decideCommit_now now]
    · have activated := (activates_of_waiting stage undecided).trans late
      rw [exec_tableActivation_of_activates hlive activated, decideCommit_later later, machine_usedChoice]
      cases t <;> rfl
    · exact exec_tableActivation_of_not_activates ((activates_of_waiting stage undecided).trans early)
  case idle =>
    refine ⟨fun off => ?_, fun due => exec_tableActivation_of_not_activates (activates_of_due due),
      fun other => exec_tableActivation_of_not_activates
        (activates_of_stays fun g rows due stage => absurd stage (other g rows due)), commit_of_idle⟩
    simp [exec_tableCommit, exec_tableActivation, off]
  case slot => rw [slotOk_iff]; simp only [holdsPackage_iff, isBought_iff]
end

section
/-!
Admission, the lock test and the rows of the active Service Table (O19).
-/
namespace Sys2Proof.Machine

/-! ### The row of a label (R51, R52) -/

theorem serviceRow_eq_none_iff (s : State) (n : Nat) :
    serviceRow s n = none ↔ n = 0 ∨ ∀ image ∈ s.svc.active, field image 0 2 ≠ n := by
  by_cases zero : n = 0
  · simp [serviceRow, zero]
  · simp [serviceRow, zero, rowOf]

theorem image_of_serviceRow {s : State} {n : Nat} {r : ServiceRow} (h : serviceRow s n = some r) :
    ∃ image ∈ s.svc.active, field image 0 2 = n ∧ r = rowOf image := by
  rw [serviceRow, if_neg (label_ne_zero_of_serviceRow h)] at h
  obtain ⟨image, present, rfl⟩ := List.mem_map.mp (List.mem_of_find?_eq_some h)
  have carried : (rowOf image).label = n := by simpa using List.find?_some h
  exact ⟨image, present, carried, rfl⟩

/-! ### The lock test (R109, R110) -/

theorem lockTest_of_no_guest {s : State} (h : guest s = none) (rating : Nat) :
    lockTest s rating = if rating = 0 then .pass else .locked := by
  cases rating <;> simp [lockTest, restricted, h]

section
variable {s : State} {g : RoomRecord} {rating : Nat}

theorem lockTest_of_unrestricted (hg : guest s = some g) (h : rating < g.threshold) :
    lockTest s rating = .pass := by
  simp [lockTest, restricted, hg, h]

theorem restricted_of_threshold (hg : guest s = some g) (h : g.threshold ≤ rating) :
    restricted s rating = true := by
  simp [restricted, hg, h]

theorem lockTest_of_off (hg : guest s = some g) (mode : g.lockMode = .off) : lockTest s rating = .pass := by
  simp [lockTest, hg, mode]

theorem lockTest_of_barred (hg : guest s = some g) (h : g.threshold ≤ rating) (mode : g.lockMode = .barred) :
    lockTest s rating = .barred := by
  simp [lockTest, restricted_of_threshold hg h, hg, mode]

/-- R110: the lines behind the lock mode PIN; without a window the whole day is inside. -/
theorem lockTest_of_pin (hg : guest s = some g) (h : g.threshold ≤ rating) (mode : g.lockMode = .pin) :
    lockTest s rating =
      if s.lock.state.isUnlocked = false then .locked
      else if g.window.all (insideWindow s.time.building) then .pass else .outOfWindow := by
  simp only [lockTest, restricted_of_threshold hg h, hg, mode]
  cases s.lock.state.isUnlocked with
  | false => rfl
  | true => cases g.window <;> rfl

end

theorem isUnlocked_eq_false {state : LockState} (h : ∀ e, state ≠ .unlocked e) : state.isUnlocked = false := by
  cases state with
  | unlocked e => exact absurd rfl (h e)
  | locked => rfl
  | lockout e => rfl

/-! ### Admission (R162) -/

theorem admissionOf_of_override {s : State} {n : Nat} (h : s.emergency = some n) :
    admissionOf s n = .passOverride := if_pos h

theorem admissionOf_of_no_row {s : State} {n : Nat} (h : s.emergency ≠ some n) (row : serviceRow s n = none) :
    admissionOf s n = .noService := by
  rw [admissionOf, if_neg h, row]
  rfl

section
variable {s : State} {n : Nat} {r : ServiceRow}

theorem admissionOf_of_open (h : s.emergency ≠ some n) (row : serviceRow s n = some r)
    (access : r.access = .openToAll) : admissionOf s n = lockTest s r.rating := by
  simp only [admissionOf, if_neg h, row, admitRow, access]

theorem admissionOf_of_package (h : s.emergency ≠ some n) (row : serviceRow s n = some r)
    (access : r.access = .package) : admissionOf s n =
      if holdsPackage s r.package then lockTest s r.rating else .notEntitled := by
  simp only [admissionOf, if_neg h, row, admitRow, access]

theorem admissionOf_of_film (h : s.emergency ≠ some n) (row : serviceRow s n = some r)
    (access : r.access = .film) : admissionOf s n =
      if isBought s r.film then lockTest s r.rating else .notPurchased := by
  simp only [admissionOf, if_neg h, row, admitRow, access]

end

end Sys2Proof.Machine

open Sys2Proof.Machine in
/-- Settles O19: admission by the row's access kind, the lock test by the guest's record, the row by its image. -/
theorem admissionFollowsTheTables : Obligations.AdmissionFollowsTheTables := by
  refine ⟨fun s n => ⟨admissionOf_of_override, admissionOf_of_no_row, fun r free row => ?admission⟩,
    fun s rating => ⟨fun h => lockTest_of_no_guest (guest_of_not_occupied h) rating,
      fun g occupied active => ?lock⟩,
    fun s n => ⟨serviceRow_eq_none_iff s n, fun r row => ⟨label_ne_zero_of_serviceRow row, ?row⟩⟩⟩
  case admission =>
    refine ⟨admissionOf_of_open free row, fun package vacant => ?_, fun g package occupied active => ?_,
      fun film unbought => ?_, fun p live film same => ?_⟩
    · have unheld : ¬holdsPackage s r.package = true := fun h => vacant ((holdsPackage_iff s _).mp h).1
      rw [admissionOf_of_package free row package, if_neg unheld]
    · rw [admissionOf_of_package free row package, holdsPackage, guest_of_occupied occupied active]
    · have unheld : ¬isBought s r.film = true := fun h =>
        let ⟨p, live, same⟩ := (isBought_iff s _).mp h
        unbought p live same
      rw [admissionOf_of_film free row film, if_neg unheld]
    · rw [admissionOf_of_film free row film, if_pos ((isBought_iff s _).mpr ⟨p, live, same⟩)]
  case lock =>
    have hg : guest s = some g := guest_of_occupied occupied active
    refine ⟨lockTest_of_unrestricted hg, fun closed => ?_⟩
    refine ⟨lockTest_of_off hg, lockTest_of_barred hg closed, fun mode shut => ?_, fun e mode unlocked => ?_⟩
    · rw [lockTest_of_pin hg closed mode, if_pos (isUnlocked_eq_false shut)]
    · have opened : ¬s.lock.state.isUnlocked = false := by rw [unlocked]; exact Bool.noConfusion
      rw [lockTest_of_pin hg closed mode, if_neg opened]
      exact ⟨fun whole => by rw [whole]; rfl, fun w window => by rw [window]; rfl⟩
  case row =>
    obtain ⟨image, present, label, rfl⟩ := image_of_serviceRow row
    exact ⟨image, present, label, by rw [← label]; rfl⟩
end

section
/-!
The acceptance of a purchase (O38).
-/
namespace Sys2Proof.Machine

/-! ### The purchase number counter (R127) -/

/-- R127: the counter one number on; 255 is followed by 1. -/
def nextNumber (n : Nat) : Nat := if n = 255 then 1 else n + 1

theorem freeNumber_succ (held : List Nat) (fuel n : Nat) :
    freeNumber held (fuel + 1) n = if n ∈ held then freeNumber held fuel (nextNumber n) else n := by
  simp only [freeNumber, List.contains_iff_mem]
  rfl

theorem counterAfter_eq (n : Nat) (held : List Nat) :
    counterAfter n held = freeNumber held 255 (nextNumber n) := rfl

/-- R127: where the counter stands after fewer than 255 moves. -/
theorem nextNumber_iterate (n : Nat) {j : Nat} (hj : j < 255) :
    nextNumber^[j] n = if n ≤ 255 ∧ 255 < n + j then n + j - 255 else n + j := by
  induction j with
  | zero => simp
  | succ j ih =>
    rw [Function.iterate_succ_apply', ih (by omega), nextNumber]
    split_ifs <;> omega

/-- R127: fewer than 255 moves of the counter name different numbers. -/
theorem nextNumber_iterate_inj (n : Nat) {i j : Nat} (hi : i < 255) (hj : j < 255)
    (h : nextNumber^[i] n = nextNumber^[j] n) : i = j := by
  rw [nextNumber_iterate n hi, nextNumber_iterate n hj] at h
  split_ifs at h <;> omega

/-- R127: of 255 numbers on the counter's way, fewer than 255 held numbers leave one free. -/
theorem exists_free_number {held : List Nat} (h : held.length < 255) (n : Nat) :
    ∃ k < 255, nextNumber^[k] n ∉ held := by
  by_contra occupied
  push Not at occupied
  have distinct : ((List.range 255).map fun k => nextNumber^[k] n).Nodup := by
    refine List.Nodup.map_on (fun i hi j hj => ?_) List.nodup_range
    exact nextNumber_iterate_inj n (List.mem_range.mp hi) (List.mem_range.mp hj)
  have among : ((List.range 255).map fun k => nextNumber^[k] n) ⊆ held := by
    intro x hx
    obtain ⟨k, hk, rfl⟩ := List.mem_map.mp hx
    exact occupied k (List.mem_range.mp hk)
  have := (List.subperm_of_subset distinct among).length_le
  rw [List.length_map, List.length_range] at this
  omega

/-- R127: where a free number is ahead within the fuel, the search stops at the first one. -/
theorem freeNumber_spec (held : List Nat) {fuel n k : Nat} (near : k ≤ fuel) (free : nextNumber^[k] n ∉ held) :
    ∃ moves, freeNumber held fuel n = nextNumber^[moves] n ∧ nextNumber^[moves] n ∉ held
      ∧ ∀ j < moves, nextNumber^[j] n ∈ held := by
  induction fuel generalizing n k with
  | zero =>
    obtain rfl : k = 0 := by omega
    exact ⟨0, rfl, free, by simp⟩
  | succ fuel ih =>
    rw [freeNumber_succ]
    by_cases taken : n ∈ held
    · obtain ⟨k, rfl⟩ : ∃ i, k = i + 1 := Nat.exists_eq_succ_of_ne_zero fun e => free (by rwa [e])
      obtain ⟨moves, found, unheld, passed⟩ := ih (Nat.le_of_succ_le_succ near) free
      refine ⟨moves + 1, by rw [if_pos taken, found]; rfl, unheld, fun j hj => ?_⟩
      cases j with
      | zero => exact taken
      | succ j => exact passed j (Nat.lt_of_succ_lt_succ hj)
    · exact ⟨0, if_neg taken, taken, by simp⟩

/-- R127: the counter advances at least once, past every held number, and stops at the first free one. -/
theorem counterAfter_spec {held : List Nat} (h : held.length < 255) (n : Nat) :
    ∃ moves, 1 ≤ moves ∧ counterAfter n held = nextNumber^[moves] n ∧ counterAfter n held ∉ held
      ∧ ∀ j, 1 ≤ j → j < moves → nextNumber^[j] n ∈ held := by
  obtain ⟨k, hk, free⟩ := exists_free_number h (nextNumber n)
  obtain ⟨moves, found, unheld, passed⟩ := freeNumber_spec held (Nat.le_of_lt hk) free
  refine ⟨moves + 1, by omega, found, by rwa [counterAfter_eq, found], fun j positive hj => ?_⟩
  obtain ⟨j, rfl⟩ : ∃ i, j = i + 1 := Nat.exists_eq_succ_of_ne_zero (by omega)
  exact passed j (Nat.lt_of_succ_lt_succ hj)

/-! ### The copied steps (R54) -/

theorem measureOf_getD (code : Byte) :
    (measureOf code).getD .elapsed = if code = 2 then .viewed else .elapsed := by
  by_cases viewed : code = 2
  · rw [viewed]
    rfl
  · rw [if_neg viewed, measureOf, if_neg viewed]
    split <;> rfl

theorem stepOf_eq (image : Image) : stepOf image =
    if image.all (fun b => decide (b = 0)) then
      { duration := 1, measure := .elapsed, charge := 0, repeats := 0, increment := 0 }
    else
      { duration := field image 0 4
        measure := if byteAt image 4 = 2 then .viewed else .elapsed
        charge := field image 6 3
        repeats := (byteAt image 5).toNat
        increment := field image 9 2 } := by
  simp only [stepOf, isVacantStep, beq_eq_decide, measureOf_getD]

/-! ### The purchase that is opened (R125, R126, R130) -/

theorem addPurchase_eq (p : Purchase) (s : State) : addPurchase p s =
    { s with
      ret := { s.ret with
        purchases := s.ret.purchases ++ [p]
        nextPurchase := counterAfter p.number (s.ret.purchases.map (·.number) ++ [p.number]) } } := by
  simp [addPurchase]

theorem newPurchase_eq (s : State) (r : ServiceRow) : newPurchase s r =
    { number := s.ret.nextPurchase
      film := r.film
      state := if r.grace = 0 then .running 0 0 (stepAt (tariffOf s r) 0).duration else .grace r.grace 0 3600
      steps := tariffOf s r
      total := 0
      ceiling := if r.ceiling = 0 then none else some r.ceiling } := rfl

theorem acceptPurchase_of_grace {r : ServiceRow} (h : r.grace ≠ 0) (s : State) :
    acceptPurchase r s = addPurchase (newPurchase s r) s := if_neg h

theorem acceptPurchase_of_no_grace {r : ServiceRow} (h : r.grace = 0) (s : State) :
    acceptPurchase r s = beginRepetition s.ret.nextPurchase 0 0 (addPurchase (newPurchase s r) s) := if_pos h

/-! ### The checks (R128) -/

theorem lockRefusal_of_pass {s : State} {r : ServiceRow} (h : lockTest s r.rating = .pass) :
    lockRefusal s r = none := by
  rw [lockRefusal, h]

theorem filmRefusal_of_passed {s : State} {r : ServiceRow} (access : r.access = .film)
    (fresh : isBought s r.film = false) (lock : lockTest s r.rating = .pass)
    (room : s.ret.purchases.length < 8) (places : s.ret.records.length + s.ret.purchases.length + 1 ≤ 32)
    (allowed : overLimit s r = false) : filmRefusal s r = none := by
  simp only [filmRefusal, access, ne_eq, not_true_eq_false, if_false, fresh, Bool.false_eq_true,
    lockRefusal_of_pass lock, Nat.not_le.mpr room, Nat.not_lt.mpr places, allowed]

theorem buyFilm_of_passed {s : State} {r : ServiceRow} {label : Nat} (row : serviceRow s label = some r)
    (passed : filmRefusal s r = none) : buyFilm label s =
      (acceptPurchase r s, .done, [BitVec.ofNat 8 s.ret.nextPurchase, 0, 0, 0]) := by
  simp only [buyFilm, row, passed]
  rfl

theorem buy_of_guest (label : Nat) {s : State} (tenancy : s.ret.tenancy = .occupied)
    (free : s.emergency = none) (time : s.time.building ≠ none) :
    buy label s = buyFilm label (evalBillingDay s) := by
  have known : s.time.building.isNone = false := Option.isNone_eq_false_iff.mpr (Option.isSome_iff_ne_none.mpr time)
  simp [buy, tenancy, free, known]

end Sys2Proof.Machine

open Sys2Proof.Machine in
/-- Settles O38: every check passes, the purchase joins the table, and the counter stops at a free number. -/
theorem purchaseIsAccepted : Obligations.PurchaseIsAccepted := by
  refine ⟨fun s q label r taken operands => ?accepted, fun s r => ?steps⟩
  case accepted =>
    intro p e tenancy free time row access fresh lock room places allowed n held advance opened
    have passed := filmRefusal_of_passed access fresh lock room places allowed
    have run : exec .purchase s =
        .next (answered q .done [BitVec.ofNat 8 n, 0, 0, 0] (acceptPurchase r e)) := by
      have reply : buy label p = _ := (buy_of_guest label tenancy free time).trans (buyFilm_of_passed row passed)
      refine congrArg Host.Outcome.next ((onCommand_of_taken taken operands _).trans ?_)
      rw [reply]
    have short : held.length < 255 := by
      simp only [held, List.length_append, List.length_map, List.length_singleton]
      omega
    obtain ⟨moves, moved, stops, unheld, through⟩ := counterAfter_spec short n
    refine ⟨counterAfter n held, moves, moved, stops, unheld, through, fun grace => ?_, fun atOnce => ?_⟩
    · have graced : r.grace ≠ 0 := Nat.pos_iff_ne_zero.mp grace
      rw [run, acceptPurchase_of_grace graced, addPurchase_eq, newPurchase_eq, if_neg graced]
    · rw [run, acceptPurchase_of_no_grace atOnce, addPurchase_eq, newPurchase_eq, if_pos atOnce]
  case steps =>
    simp only [tariffOf, stepOf_eq]
    rfl
end

section
/-!
The Key Table takes a key unit: the entries it accepts (O28) and the slots it loads (O29).
-/
namespace Sys2Proof.Machine

/-! ### The entries of a key unit (R71, R72) -/

theorem readKeyUnit_of_malformed {payload : List Byte} (h : (byteAt payload 0).toNat = 0
    ∨ 9 < (byteAt payload 0).toNat ∨ (byteAt payload 1).toNat ≠ 0 ∨ (byteAt payload 2).toNat ≠ 0
    ∨ (byteAt payload 3).toNat ≠ 0) : readKeyUnit payload = [] := by
  refine if_neg ?_
  simp only [Bool.and_eq_true, decide_eq_true_eq, mbz_succ, mbz_zero, Nat.reduceAdd]
  omega

theorem readKeyUnit_of_wellFormed {payload : List Byte} (least : 1 ≤ (byteAt payload 0).toNat)
    (most : (byteAt payload 0).toNat ≤ 9) (b1 : (byteAt payload 1).toNat = 0)
    (b2 : (byteAt payload 2).toNat = 0) (b3 : (byteAt payload 3).toNat = 0) :
    readKeyUnit payload = (List.range (byteAt payload 0).toNat).filterMap fun i =>
      readKeyEntry ((payload.drop (4 + 12 * i)).take 12) := by
  have wellFormed : (decide (1 ≤ (byteAt payload 0).toNat) && decide ((byteAt payload 0).toNat ≤ 9)
      && mbz payload 1 3) = true := by
    simp [least, most, mbz_succ, b1, b2, b3]
  rw [readKeyUnit, if_pos wellFormed, images_eq_map, List.filterMap_map]
  refine List.filterMap_congr fun i _ => ?_
  rw [Function.comp, List.drop_drop]

/-- R72: the six must-be-zero bits of the flags. -/
theorem flags_clear_iff (flags : Byte) :
    (flags.extractLsb' 1 6 == 0) = true ↔ ∀ i, 1 ≤ i → i ≤ 6 → flags.getLsbD i = false := by
  rw [beq_iff_eq]
  constructor
  · intro h i hi hi6
    have bit := congrArg (·.getLsbD (i - 1)) h
    have inside : i - 1 < 6 := by omega
    have back : 1 + (i - 1) = i := by omega
    simpa [BitVec.getLsbD_extractLsb', inside, back] using bit
  · intro h
    refine BitVec.eq_of_getLsbD_eq fun i hi => ?_
    simp [hi, h (1 + i) (by omega) (by omega)]

theorem readKeyEntry_iff (entry : List Byte) (e : KeyEntry) : readKeyEntry entry = some e ↔
    e.label = field entry 0 2 ∧ 1 ≤ e.label ∧ e.label ≤ 4079
    ∧ e.package = (byteAt entry 2).toNat ∧ e.package ≤ 31
    ∧ (∀ i, 1 ≤ i → i ≤ 6 → (byteAt entry 3).getLsbD i = false)
    ∧ e.house = (byteAt entry 3).getLsbD 7 ∧ e.phaseB = (byteAt entry 3).getLsbD 0
    ∧ e.word = BitVec.ofNat 64 (field entry 4 8) := by
  simp only [readKeyEntry, Option.ite_none_right_eq_some, Bool.and_eq_true, decide_eq_true_eq,
    isServiceLabel_iff, flags_clear_iff, Option.some.injEq]
  constructor
  · rintro ⟨⟨⟨⟨least, most⟩, package⟩, clear⟩, rfl⟩
    exact ⟨rfl, least, most, rfl, package, clear, rfl, rfl, rfl⟩
  · obtain ⟨label, package, house, phaseB, word⟩ := e
    rintro ⟨rfl, least, most, rfl, package, clear, rfl, rfl, rfl⟩
    exact ⟨⟨⟨⟨least, most⟩, package⟩, clear⟩, rfl⟩

/-! ### The acceptance test (R75) -/

/-- R75: what the tables and the stay say of an entry whose label has the row `r`. -/
theorem accepts_of_row {s : State} {e : KeyEntry} {r : ServiceRow} (row : serviceRow s e.label = some r) :
    accepts s e = true ↔ (r.access = .openToAll ∧ e.house = true)
      ∨ (r.access = .package ∧ e.house = false ∧ e.package = r.package ∧ holdsPackage s r.package = true)
      ∨ (r.access = .film ∧ e.house = false ∧ isBought s r.film = true) := by
  unfold accepts
  rw [row]
  cases access : r.access <;> simp [access, and_assoc]

theorem takeEntry_of_accepted {s : State} {e : KeyEntry} (h : accepts s e = true) :
    takeEntry s e = placeEntry e s := if_pos h

theorem takeEntry_of_refused {s : State} {e : KeyEntry} (h : ¬accepts s e = true) : takeEntry s e = s :=
  if_neg h

theorem accepts_of_no_row {s : State} {e : KeyEntry} (row : serviceRow s e.label = none) :
    ¬accepts s e = true := by
  simp [accepts, row]

/-! ### The oldest slot (R74, R77) -/

/-- R74, R77: at the index `n` stands `k`, the oldest of the slots that satisfy a test; of equal ages the
lower index is the older. -/
structure OldestAt (loads : Word32) (test : KeySlot → Bool) (slots : List (Option KeySlot)) (n : Nat)
    (k : KeySlot) : Prop where
  stands : slots[n]? = some (some k)
  passes : test k = true
  oldest : ∀ m k', slots[m]? = some (some k') → test k' = true →
    ageOf loads k' < ageOf loads k ∨ (ageOf loads k' = ageOf loads k ∧ n ≤ m)

/-- R77: a slot in front that fails the test, or is younger, leaves the oldest as it is. -/
theorem OldestAt.behind {loads : Word32} {test : KeySlot → Bool} {slots : List (Option KeySlot)} {n : Nat}
    {k : KeySlot} (h : OldestAt loads test slots n k) {slot : Option KeySlot}
    (younger : ∀ k₀, slot = some k₀ → test k₀ = true → ageOf loads k₀ < ageOf loads k) :
    OldestAt loads test (slot :: slots) (n + 1) k where
  stands := by simpa using h.stands
  passes := h.passes
  oldest := by
    rintro (_ | m) k' at' passes
    · exact .inl (younger k' (by simpa using at') passes)
    · exact (h.oldest m k' (by simpa using at') passes).imp_right fun ⟨age, le⟩ => ⟨age, by omega⟩

/-- R77: a slot in front that satisfies the test, with none behind it older, is the oldest. -/
theorem OldestAt.front {loads : Word32} {test : KeySlot → Bool} {slots : List (Option KeySlot)} {k : KeySlot}
    (passes : test k = true)
    (older : ∀ k', some k' ∈ slots → test k' = true → ageOf loads k' ≤ ageOf loads k) :
    OldestAt loads test (some k :: slots) 0 k where
  stands := rfl
  passes := passes
  oldest := by
    rintro (_ | m) k' at' passes'
    · obtain rfl : k = k' := by simpa using at'
      exact .inr ⟨rfl, le_rfl⟩
    · have le := older k' (List.mem_iff_getElem?.mpr ⟨m, by simpa using at'⟩) passes'
      exact (Nat.lt_or_eq_of_le le).imp_right fun age => ⟨age, Nat.zero_le _⟩

theorem oldestSlot_none {loads : Word32} {test : KeySlot → Bool} {slots : List (Option KeySlot)} {i : Nat}
    (h : oldestSlot loads test i slots = none) : ∀ k, some k ∈ slots → test k = false := by
  induction slots generalizing i with
  | nil => simp
  | cons slot rest ih =>
    intro k mem
    cases slot with
    | none => exact ih (by simpa [oldestSlot] using h) k (by simpa using mem)
    | some k₀ =>
      by_cases passes : test k₀ = true
      · simp only [oldestSlot, passes, if_true] at h
        split at h
        · split at h <;> cases h
        · cases h
      · have rest' := ih (i := i + 1) (by simpa [oldestSlot, passes] using h)
        rcases List.mem_cons.mp mem with e | mem
        · cases e
          exact Bool.eq_false_iff.mpr passes
        · exact rest' k mem

theorem oldestSlot_some {loads : Word32} {test : KeySlot → Bool} {slots : List (Option KeySlot)} {i j a : Nat}
    (h : oldestSlot loads test i slots = some (j, a)) :
    ∃ n k, j = i + n ∧ a = ageOf loads k ∧ OldestAt loads test slots n k := by
  induction slots generalizing i j a with
  | nil => cases h
  | cons slot rest ih =>
    have deferred (later : oldestSlot loads test (i + 1) rest = some (j, a))
        (younger : ∀ k₀, slot = some k₀ → test k₀ = true → ageOf loads k₀ < a) :
        ∃ n k, j = i + n ∧ a = ageOf loads k ∧ OldestAt loads test (slot :: rest) n k := by
      obtain ⟨n, k, rfl, rfl, oldest⟩ := ih later
      exact ⟨n + 1, k, by omega, rfl, oldest.behind younger⟩
    cases slot with
    | none => exact deferred h (fun _ e => by cases e)
    | some k₀ =>
      by_cases passes : test k₀ = true
      · cases later : oldestSlot loads test (i + 1) rest with
        | none =>
          simp only [oldestSlot, passes, if_true, later, Option.some.injEq, Prod.mk.injEq] at h
          obtain ⟨rfl, rfl⟩ := h
          refine ⟨0, k₀, rfl, rfl, .front passes fun k' mem passes' => ?_⟩
          cases passes'.symm.trans (oldestSlot_none later k' mem)
        | some found =>
          obtain ⟨j', a'⟩ := found
          by_cases younger : ageOf loads k₀ < a'
          · simp only [oldestSlot, passes, if_true, later, younger, Option.some.injEq, Prod.mk.injEq] at h
            obtain ⟨rfl, rfl⟩ := h
            exact deferred later fun _ e _ => by cases e; exact younger
          · simp only [oldestSlot, passes, if_true, later, younger, if_false, Option.some.injEq,
              Prod.mk.injEq] at h
            obtain ⟨rfl, rfl⟩ := h
            obtain ⟨n, k, -, rfl, oldest⟩ := ih later
            refine ⟨0, k₀, rfl, rfl, .front passes fun k' mem passes' => ?_⟩
            obtain ⟨m, at'⟩ := List.mem_iff_getElem?.mp mem
            have := oldest.oldest m k' at' passes'
            omega
      · exact deferred (by simpa [oldestSlot, passes] using h)
          fun _ e passes' => by cases e; exact absurd passes' passes

/-! ### The slot chosen for replacement (R77) -/

theorem isCandidate_iff (s : State) (k : KeySlot) : isCandidate s k = true ↔
    k.house = false ∧ s.outA.selected ≠ k.label ∧ s.outB.selected ≠ k.label := by
  simp [isCandidate, isSelected]

/-- R77: `i` holds the oldest unused candidate, or, where every candidate is used, the oldest candidate. -/
theorem chosenSlot_some {s : State} {i : Nat} (h : chosenSlot s = some i) :
    ∃ k, s.keys.slots[i]? = some (some k) ∧ isCandidate s k = true
      ∧ (k.used = true → ∀ k', some k' ∈ s.keys.slots → isCandidate s k' = true → k'.used = true)
      ∧ ∀ j k', s.keys.slots[j]? = some (some k') → isCandidate s k' = true → k'.used = k.used →
        ageOf s.keys.loads k' < ageOf s.keys.loads k
          ∨ (ageOf s.keys.loads k' = ageOf s.keys.loads k ∧ i ≤ j) := by
  unfold chosenSlot at h
  split at h
  · rename_i n a unused
    obtain rfl : n = i := by simpa using h
    obtain ⟨n', k, rfl, -, oldest⟩ := oldestSlot_some unused
    obtain ⟨candidate, fresh⟩ : isCandidate s k = true ∧ k.used = false := by simpa using oldest.passes
    rw [Nat.zero_add]
    refine ⟨k, oldest.stands, candidate, fun used => by simp [fresh] at used, fun j k' at' other same => ?_⟩
    exact oldest.oldest j k' at' (by simp [other, same, fresh])
  · rename_i none_unused
    obtain ⟨⟨n, a⟩, found, rfl⟩ := Option.map_eq_some_iff.mp h
    obtain ⟨n', k, rfl, -, oldest⟩ := oldestSlot_some found
    have used (k' : KeySlot) (mem : some k' ∈ s.keys.slots) (other : isCandidate s k' = true) :
        k'.used = true := by
      simpa [other] using oldestSlot_none none_unused k' mem
    have mem := List.mem_iff_getElem?.mpr ⟨_, oldest.stands⟩
    show ∃ k, s.keys.slots[0 + n']? = _ ∧ _
    rw [Nat.zero_add]
    exact ⟨k, oldest.stands, oldest.passes, fun _ => used, fun j k' at' other _ => oldest.oldest j k' at' other⟩

theorem chosenSlot_none {s : State} (h : chosenSlot s = none) :
    ∀ k, some k ∈ s.keys.slots → ¬isCandidate s k = true := by
  unfold chosenSlot at h
  split at h
  · cases h
  · exact fun k mem => Bool.eq_false_iff.mp (oldestSlot_none (Option.map_eq_none_iff.mp h) k mem)

/-! ### The placement (R76) -/

theorem carries_iff (label : Nat) (slot : Option KeySlot) :
    carries label slot = true ↔ ∃ k, slot = some k ∧ k.label = label := by
  cases slot <;> simp [carries]

theorem placeEntry_of_slot {e : KeyEntry} {s : State} {i : Nat} {k : KeySlot}
    (stands : s.keys.slots[i]? = some (some k)) (label : k.label = e.label)
    (first : ∀ j k', j < i → s.keys.slots[j]? = some (some k') → k'.label ≠ e.label) :
    placeEntry e s = loadSlot i (reloadedBy e (s.keys.loads + 1) k) s := by
  obtain ⟨inside, at_i⟩ := List.getElem?_eq_some_iff.mp stands
  have found : s.keys.slots.findIdx? (carries e.label) = some i := by
    refine List.findIdx?_eq_some_iff_getElem.mpr ⟨inside, (carries_iff ..).mpr ⟨k, at_i, label⟩, ?_⟩
    intro j before carried
    obtain ⟨k', at_j, same⟩ := (carries_iff ..).mp carried
    exact first j k' before (List.getElem?_eq_some_iff.mpr ⟨_, at_j⟩) same
  simp only [placeEntry, found, List.getD_eq_getElem?_getD, stands, Option.getD_some]

theorem findIdx?_isNone_none {slots : List (Option KeySlot)} (full : none ∉ slots) :
    slots.findIdx? Option.isNone = none := by
  refine List.findIdx?_eq_none_iff.mpr fun slot mem => Bool.eq_false_iff.mpr fun empty => full ?_
  rwa [Option.isNone_iff_eq_none.mp empty] at mem

section
variable {e : KeyEntry} {s : State} (noSlot : ∀ k, some k ∈ s.keys.slots → k.label ≠ e.label)
include noSlot

theorem findIdx?_carries_none : s.keys.slots.findIdx? (carries e.label) = none := by
  refine List.findIdx?_eq_none_iff.mpr fun slot mem => Bool.eq_false_iff.mpr fun carried => ?_
  obtain ⟨k, rfl, label⟩ := (carries_iff ..).mp carried
  exact noSlot k mem label

theorem placeEntry_of_empty {i : Nat} (stands : s.keys.slots[i]? = some none)
    (first : ∀ j, j < i → s.keys.slots[j]? ≠ some none) :
    placeEntry e s = loadSlot i (loadedBy e (s.keys.loads + 1)) s := by
  obtain ⟨inside, at_i⟩ := List.getElem?_eq_some_iff.mp stands
  have found : s.keys.slots.findIdx? Option.isNone = some i := by
    refine List.findIdx?_eq_some_iff_getElem.mpr ⟨inside, by rw [at_i]; rfl, fun j before empty => ?_⟩
    exact first j before (List.getElem?_eq_some_iff.mpr ⟨_, Option.isNone_iff_eq_none.mp empty⟩)
  simp only [placeEntry, findIdx?_carries_none noSlot, found]

theorem placeEntry_of_chosen (full : none ∉ s.keys.slots) {i : Nat} (chosen : chosenSlot s = some i) :
    placeEntry e s = loadSlot i (loadedBy e (s.keys.loads + 1)) s := by
  simp only [placeEntry, findIdx?_carries_none noSlot, findIdx?_isNone_none full, chosen]

theorem placeEntry_of_none_chosen (full : none ∉ s.keys.slots) (chosen : chosenSlot s = none) :
    placeEntry e s = latch .keyTableFull s := by
  simp only [placeEntry, findIdx?_carries_none noSlot, findIdx?_isNone_none full, chosen]

end

end Sys2Proof.Machine

open Sys2Proof.Machine in
/-- Settles O28: the unit, the entry and the acceptance test, each by its reader or row. -/
theorem keyEntriesAreAccepted : Obligations.KeyEntriesAreAccepted := by
  refine ⟨fun s q taken => congrArg Host.Outcome.next (onFeed_of_taken taken _),
    fun payload => ⟨readKeyUnit_of_malformed, readKeyUnit_of_wellFormed⟩, readKeyEntry_iff,
    fun s e => ⟨fun row => takeEntry_of_refused (accepts_of_no_row row), ?row⟩⟩
  intro r row admitted
  have test : accepts s e = true ↔ admitted := by
    rw [accepts_of_row row, holdsPackage_iff, isBought_iff, and_left_comm (a := e.package = r.package)]
  exact ⟨fun h => takeEntry_of_accepted (test.mpr h), fun h => takeEntry_of_refused (mt test.mp h)⟩

open Sys2Proof.Machine in
/-- Settles O29: the slot of the label, an EMPTY slot, a replaced slot, or none. -/
theorem keyEntriesArePlaced : Obligations.KeyEntriesArePlaced := by
  intro s e slots order fresh loaded age candidate noSlot
  refine ⟨fun i k stands label first => placeEntry_of_slot stands label first,
    fun i absent stands first => placeEntry_of_empty absent stands first,
    fun absent full ⟨k, mem, free⟩ => ?replaced, fun absent full taken => ?dropped⟩
  case replaced =>
    cases chosen : chosenSlot s with
    | none => exact absurd ((isCandidate_iff s k).mpr free) (chosenSlot_none chosen k mem)
    | some i =>
      obtain ⟨k, stands, free, used, oldest⟩ := chosenSlot_some chosen
      exact ⟨i, k, stands, (isCandidate_iff s k).mp free, placeEntry_of_chosen absent full chosen,
        fun h k' mem' free' => used h k' mem' ((isCandidate_iff s k').mpr free'),
        fun j k' at' free' => oldest j k' at' ((isCandidate_iff s k').mpr free')⟩
  case dropped =>
    cases chosen : chosenSlot s with
    | none => exact placeEntry_of_none_chosen absent full chosen
    | some i =>
      obtain ⟨k, stands, free, -⟩ := chosenSlot_some chosen
      exact absurd ((isCandidate_iff s k).mp free) (taken k (List.mem_iff_getElem?.mpr ⟨i, stands⟩))
end

section
/-!
The Descrambler (O17).
-/
namespace Sys2Proof.Machine

/-! ### The key word of a unit (R84) -/

theorem wordFor_of_no_slot {slots : List (Option KeySlot)} {u : CarriageUnit}
    (h : ∀ k, some k ∈ slots → k.label ≠ u.label.toNat) : wordFor slots u = none := by
  have absent : (slots.filterMap id).find? (fun k => k.label == u.label.toNat) = none := by
    refine List.find?_eq_none.mpr fun k mem carried => h k ?_ (beq_iff_eq.mp carried)
    simpa using mem
  rw [wordFor, absent]

/-- R84: the slot of the label with the lowest index gives the word. -/
theorem wordFor_of_slot {slots : List (Option KeySlot)} {u : CarriageUnit} {i : Nat} {k : KeySlot}
    (stands : slots[i]? = some (some k)) (label : k.label = u.label.toNat)
    (first : ∀ j k', j < i → slots[j]? = some (some k') → k'.label ≠ u.label.toNat) :
    wordFor slots u = k.word u.phase := by
  obtain ⟨inside, at_i⟩ := List.getElem?_eq_some_iff.mp stands
  have found : slots.find? (fun slot => slot.any fun k => k.label == u.label.toNat) = some (some k) := by
    refine List.find?_eq_some_iff_getElem.mpr ⟨by simp [label], i, inside, at_i, fun j before => ?_⟩
    cases at_j : slots[j] with
    | none => rfl
    | some k' => simpa using first j k' before (List.getElem?_eq_some_iff.mpr ⟨_, at_j⟩)
  have slot : (slots.filterMap id).find? (fun k => k.label == u.label.toNat) = some k := by
    rw [List.find?_filterMap]
    exact congrArg (Option.bind · id) found
  rw [wordFor, slot]

theorem KeySlot.word_eq (k : KeySlot) (phase : KeyPhase) : k.word phase =
    if phase = .phaseA then k.wordA else if phase = .phaseB then k.wordB else none := by
  cases phase <;> rfl

/-! ### The outcome (R84) -/

theorem descramble_of_clear (keys : KeyTable) {u : CarriageUnit} (h : u.phase = .clear) :
    descramble keys u = (.clear, u.payload, keys.keystream) := if_pos h

theorem descramble_of_no_word {keys : KeyTable} {u : CarriageUnit} (scrambled : u.phase ≠ .clear)
    (h : wordFor keys.slots u = none) : descramble keys u = (.noKey, u.payload, keys.keystream) := by
  rw [descramble, if_neg scrambled, h]

theorem descramble_of_word {keys : KeyTable} {u : CarriageUnit} {w : BitVec 64} (scrambled : u.phase ≠ .clear)
    (h : wordFor keys.slots u = some w) : descramble keys u =
      (.descrambled, descrambleBytes (keystreamSeed w u.label u.sequence) u.payload) := by
  rw [descramble, if_neg scrambled, h]

/-! ### The keystream (R85) -/

/-- R85: T, the label and the sequence as one number. -/
theorem label_sequence_toNat (label : BitVec 12) (sequence : BitVec 4) :
    ((label ++ sequence).setWidth 32).toNat = label.toNat * 16 + sequence.toNat := by
  have small := label.isLt
  have rest := sequence.isLt
  rw [BitVec.toNat_setWidth, BitVec.toNat_append, ← Nat.shiftLeft_add_eq_or_of_lt rest, Nat.shiftLeft_eq]
  omega

/-- R85: the seed is all ones where the number is 0. -/
theorem allOnesForZero_toNat (x : Register31) :
    (if x = 0 then sigSeed else x).toNat = if x.toNat = 0 then 0x7FFFFFFF else x.toNat := by
  by_cases zero : x = 0
  · subst zero
    rfl
  · have nonzero : x.toNat ≠ 0 := fun h => zero (BitVec.eq_of_toNat_eq h)
    rw [if_neg zero, if_neg nonzero]

theorem keystreamSeed_toNat (w : BitVec 64) (label : BitVec 12) (sequence : BitVec 4) :
    (keystreamSeed w label sequence).toNat =
      let seed := (w.toNat / 2 ^ 32 ^^^ w.toNat % 2 ^ 32 ^^^ (label.toNat * 16 + sequence.toNat)) % 2 ^ 31
      if seed = 0 then 0x7FFFFFFF else seed := by
  have word := w.isLt
  have high : (w.extractLsb' 32 32).toNat = w.toNat / 2 ^ 32 := by
    rw [BitVec.extractLsb'_toNat, Nat.shiftRight_eq_div_pow, Nat.mod_eq_of_lt (by omega)]
  have low : (w.extractLsb' 0 32).toNat = w.toNat % 2 ^ 32 := by
    rw [BitVec.extractLsb'_toNat, Nat.shiftRight_zero]
  have seed : ((w.extractLsb' 32 32 ^^^ w.extractLsb' 0 32 ^^^ (label ++ sequence).setWidth 32).setWidth 31).toNat
      = (w.toNat / 2 ^ 32 ^^^ w.toNat % 2 ^ 32 ^^^ (label.toNat * 16 + sequence.toNat)) % 2 ^ 31 := by
    rw [BitVec.toNat_setWidth, BitVec.toNat_xor, BitVec.toNat_xor, high, low, label_sequence_toNat]
  rw [← seed]
  exact allOnesForZero_toNat _

theorem descrambleBytes_cons (r : Register31) (b : Byte) (rest : List Byte) :
    descrambleBytes r (b :: rest) =
      ((b ^^^ (keystreamByte r).extractLsb' 0 8) :: (descrambleBytes (keystreamByte r) rest).1,
        (descrambleBytes (keystreamByte r) rest).2) := by
  rw [← BitVec.setWidth_eq_extractLsb' (by decide)]
  rfl

/-- R85: a byte under the keystream twice is the byte, and the register moves the same way both times. -/
theorem descrambleBytes_undoes (r : Register31) (payload : List Byte) :
    (descrambleBytes r (descrambleBytes r payload).1).1 = payload := by
  induction payload generalizing r with
  | nil => rfl
  | cons b rest ih =>
    simp only [descrambleBytes_cons, ih, BitVec.xor_assoc, BitVec.xor_self, BitVec.xor_zero]

end Sys2Proof.Machine

open Sys2Proof.Machine in
/-- Settles O17: the outcome by the word of the slot, the seed as a number, and the two passes byte by byte. -/
theorem descramblingUndoesItself : Obligations.DescramblingUndoesItself := by
  refine ⟨fun keys u => ?outcome, keystreamSeed_toNat, fun _ => rfl, descrambleBytes_cons,
    fun r payload => ⟨descrambleBytes_length r payload, descrambleBytes_undoes r payload⟩⟩
  case outcome =>
    refine ⟨descramble_of_clear keys,
      fun scrambled absent => descramble_of_no_word scrambled (wordFor_of_no_slot absent), ?slot⟩
    intro i k stands label first word
    have found : wordFor keys.slots u = word := (wordFor_of_slot stands label first).trans (k.word_eq u.phase)
    exact ⟨fun scrambled missing => descramble_of_no_word scrambled (found.trans missing),
      fun w scrambled held => descramble_of_word scrambled (found.trans held)⟩
end

section
/-!
PURCHASE VOID and the end of a purchase (O39).
-/
namespace Sys2Proof.Machine

theorem voidFilm_of_live {s : State} {film : Nat} {x : Purchase}
    (h : s.ret.purchases.find? (fun p => decide (p.film = film)) = some x) :
    voidFilm film s = endPurchase x.number .void s := by
  simp only [voidFilm, beq_eq_decide, h]

theorem voidFilm_of_none {s : State} {film : Nat} (h : ∀ x ∈ s.ret.purchases, x.film ≠ film) :
    voidFilm film s = s := by
  have absent : s.ret.purchases.find? (fun p => p.film == film) = none := by simpa using h
  rw [voidFilm, absent]

theorem exec_purchaseVoid_of_taken {s : State} {q : StampedUnit} {film : Nat}
    (taken : FeedTakes s .purchaseVoid q) (operands : readNumber q.unit.payload = some film) :
    exec .purchaseVoid s = .next (voidFilm film (afterFeed s)) :=
  congrArg Host.Outcome.next (onDirective_of_taken taken operands _)

/-- R143: the end of a purchase that is live. -/
theorem endPurchase_of_live {s : State} {n : Nat} {p : Purchase} (h : purchaseOf s n = some p)
    (reason : EndReason) : endPurchase n reason s =
      purchaseEnded p.film (latch .purchaseEnded
        { post (.ended reason p.total) n p.film s with
          ret := { (post (.ended reason p.total) n p.film s).ret with
            purchases := s.ret.purchases.eraseP (fun q => q.number == n) } }) := by
  have number := purchaseOf_number h
  subst number
  simp only [endPurchase, h]
  rfl

end Sys2Proof.Machine

open Sys2Proof.Machine in
/-- Settles O39: the live purchase of the film ends, and what its end does, field by field. -/
theorem purchaseEnds : Obligations.PurchaseEnds := by
  refine ⟨fun s q film taken operands => ⟨fun x live => ?_, fun none => ?_⟩, fun s n reason p live => ?ended⟩
  · rw [exec_purchaseVoid_of_taken taken operands, voidFilm_of_live live]
  · rw [exec_purchaseVoid_of_taken taken operands, voidFilm_of_none none]
  case ended =>
    intro posted t
    have e : t = _ := endPurchase_of_live live reason
    clear_value t
    subst e
    exact ⟨rfl, rfl, rfl, flushSlots_flushed (keptByEnd_iff s p.film) _, rfl, rfl, rfl⟩
end

section
/-!
The order of the consumers of one event, and what the Lock Unit does at an event that may close the lock.
-/
namespace Sys2Proof.Machine

/-! ### The order of the consumers (R47) -/

/-- What holds along the reactions taken so far, `done`, holds at the end, whatever the order. -/
theorem foldl_consumers {motive : List Consumer → State → Prop} {f : State → Consumer → State}
    {cs : List Consumer}
    (take : ∀ done c s, c ∈ cs → c ∉ done → motive done s → motive (c :: done) (f s c)) :
    ∀ (l done : List Consumer) (s : State), (∀ c ∈ l, c ∈ cs) → (l ++ done).Nodup → motive done s →
      motive (l.reverse ++ done) (l.foldl f s)
  | [], _, _, _, _, h => h
  | c :: l, done, s, mem, distinct, h => by
    rw [List.reverse_cons, List.append_assoc]
    have fresh : c ∉ done := fun e => (List.nodup_cons.mp distinct).1 (List.mem_append_right _ e)
    refine foldl_consumers take l (c :: done) (f s c) (fun x hx => mem x (List.mem_cons_of_mem _ hx)) ?_
      (take done c s (mem c List.mem_cons_self) fresh h)
    exact (List.perm_middle.nodup_iff).mpr distinct

/-- R47: in the order that a choice names every consumer takes the event once. -/
theorem foldl_inOrder {motive : List Consumer → State → Prop} {f : State → Consumer → State}
    {cs : List Consumer} (distinct : cs.Nodup)
    (take : ∀ done c s, c ∈ cs → c ∉ done → motive done s → motive (c :: done) (f s c))
    (order : List Consumer) {s : State} (start : motive [] s) :
    ∃ done, done.Perm cs ∧ motive done ((inOrder order cs).foldl f s) := by
  have perm := inOrder_perm order cs
  refine ⟨(inOrder order cs).reverse, (List.reverse_perm _).trans perm, ?_⟩
  have all := foldl_consumers take (inOrder order cs) [] s (fun c => perm.mem_iff.mp)
    (by rw [List.append_nil]; exact perm.nodup_iff.mpr distinct) start
  rwa [List.append_nil] at all

/-! ### Purges (R167) -/

/-- R167: a passed unit of a purged queue stood there before the purge. -/
theorem PassedAdmitted.purged {s : State} {out : Output} (h : PassedAdmitted s out) (adm : Nat → Verdict) :
    PassedAdmitted s (out.purged adm) := by
  intro q mem passes
  obtain ⟨q₀, mem₀, rfl⟩ : ∃ q₀ ∈ out.queue, purgeUnit adm q₀ = q := by simpa [Output.purged] using mem
  by_cases hit : purgeHits adm q₀ = true
  · have refused := ((purgeHits_iff adm q₀).mp hit).2
    rw [purgeUnit_of_hit hit] at passes
    cases passes.symm.trans refused
  · rw [purgeUnit_of_miss (Bool.eq_false_iff.mpr hit)] at passes ⊢
    exact h q₀ mem₀ passes

/-- R167: under the same admission the same units may pass. -/
theorem PassedAdmitted.congr {s t : State} {out : Output} (h : PassedAdmitted s out)
    (adm : admissionOf t = admissionOf s) : PassedAdmitted t out :=
  fun q mem passes => adm ▸ h q mem passes

/-- R167: a consumer that leaves both outputs as they are under an admission that stands, or purges both. -/
structure GateReacts (s t : State) : Prop where
  either : (t.outA = s.outA ∧ t.outB = s.outB ∧ admissionOf t = admissionOf s)
    ∨ (t.outA = s.outA.purged (admissionOf t) ∧ t.outB = s.outB.purged (admissionOf t))

theorem purge_gateReacts (s : State) : GateReacts s (purge s) := ⟨.inr ⟨rfl, rfl⟩⟩

theorem GateReacts.admitted {s t : State} (h : GateReacts s t)
    (hs : PassedAdmitted s s.outA ∧ PassedAdmitted s s.outB) :
    PassedAdmitted t t.outA ∧ PassedAdmitted t t.outB := by
  rcases h.either with ⟨outA, outB, adm⟩ | ⟨outA, outB⟩
  · rw [outA, outB]
    exact ⟨hs.1.congr adm, hs.2.congr adm⟩
  · rw [outA, outB]
    exact ⟨fun _ => purged_admitted _ _, fun _ => purged_admitted _ _⟩

theorem GateReacts.purged {s t : State} (h : GateReacts s t) {adms : List (Nat → Verdict)}
    {before : OutputId → Output} (hs : ∀ o, OutputPurged adms (before o) (output s o))
    (adm : admissionOf t ∈ adms) (o : OutputId) : OutputPurged adms (before o) (output t o) := by
  have again := (hs o).purged (adm := admissionOf t) fun _ => ⟨_, adm, rfl⟩
  rcases h.either with ⟨outA, outB, -⟩ | ⟨outA, outB⟩
  · have same : output t o = output s o := by
      cases o
      · exact outA
      · exact outB
    exact same ▸ hs o
  · have same : output t o = (output s o).purged (admissionOf t) := by
      cases o
      · exact outA
      · exact outB
    exact same ▸ again

/-! ### The fields that the consumers can reach (R100, R103) -/

/-- R100, R103: the fields that the consumers of the active record changed event and of the CLOSING start event
can reach. -/
def ByStay (s t : State) : Prop :=
  t = { s with
    ret := t.ret
    lock := t.lock
    offer := t.offer
    keys := { s.keys with slots := t.keys.slots }
    outA := t.outA
    outB := t.outB
    alerts := { s.alerts with latched := t.alerts.latched } }

theorem ByStay.trans {s t u : State} (h : ByStay s t) (k : ByStay t u) : ByStay s u := by
  refine Eq.trans k ?_
  rw [h]

theorem ByStay.emergency {s t : State} (h : ByStay s t) : t.emergency = s.emergency := by rw [h]
theorem ByStay.svc {s t : State} (h : ByStay s t) : t.svc = s.svc := by rw [h]
theorem ByStay.time {s t : State} (h : ByStay s t) : t.time = s.time := by rw [h]
theorem ByStay.install {s t : State} (h : ByStay s t) : t.install = s.install := by rw [h]
theorem ByStay.power {s t : State} (h : ByStay s t) : t.power = s.power := by rw [h]
theorem ByStay.closing {s t : State} (h : ByStay s t) : t.closing = s.closing := by rw [h]
theorem ByStay.sense {s t : State} (h : ByStay s t) : t.alerts.sense = s.alerts.sense := by rw [h]

theorem ByStay.serviceRow {s t : State} (h : ByStay s t) (label : Nat) :
    serviceRow t label = serviceRow s label := by
  simp only [Machine.serviceRow, h.svc]

/-! ### The Lock Unit closes the lock (R113, R121, R122) -/

/-- R120 to R122: from `s` to `t` the Lock Unit closes the lock with failures 0 where `closes`, and evaluates
the membership. -/
structure LockReacts (closes : Bool) (s t : State) : Prop where
  ret : t.ret = { s.ret with failures := if closes then 0 else s.ret.failures }
  lock : t.lock = { state := if closes then .locked else s.lock.state, membership := membershipNow s }
  alerts : t.alerts = s.alerts.latchIf (closes && s.lock.state.isUnlocked) .sessionEnded
  outputs : GateReacts s t
  keys : t.keys = s.keys
  offer : t.offer = s.offer
  frame : ByStay s t

/-- R110: a lock that is not UNLOCKED is as good as a LOCKED one. -/
theorem admissionOf_of_not_unlocked {s t : State} (h : s.lock.state.isUnlocked = false)
    (e : t = { s with ret := t.ret, lock := t.lock }) (tenancy : t.ret.tenancy = s.ret.tenancy)
    (active : t.ret.active = s.ret.active) (purchases : t.ret.purchases = s.ret.purchases)
    (locked : t.lock.state = .locked) : admissionOf t = admissionOf s := by
  funext n
  have same : guest t = guest s := by simp only [guest, tenancy, active]
  refine admissionOf_congr ?_ ?_ same ?_ (by rw [h, locked]; rfl) fun r _ => by simp only [isBought, purchases]
  all_goals rw [e]

theorem takeRecordChanged_lock (closes : Bool) (s : State) :
    LockReacts closes s (takeRecordChanged closes .lock s) := by
  cases closes with
  | false => exact ⟨rfl, rfl, (latchIf_false _ _).symm, ⟨.inl ⟨rfl, rfl, rfl⟩⟩, rfl, rfl, rfl⟩
  | true =>
    show LockReacts true s (evalMembership (setFailures 0 (closeLock s)))
    rcases closeLock_cases s with ⟨state, e⟩ | ⟨x, state, e⟩ | ⟨x, state, e⟩ <;> rw [e]
    · have closed : s.lock.state.isUnlocked = false := by rw [state]; rfl
      have kept := admissionOf_of_not_unlocked (t := evalMembership (setFailures 0 s)) closed rfl rfl rfl rfl state
      refine ⟨rfl, ?_, ?_, ⟨.inl ⟨rfl, rfl, kept⟩⟩, rfl, rfl, rfl⟩
      · rw [if_pos rfl, ← state]
        rfl
      · rw [closed]
        exact (latchIf_false _ _).symm
    · have opened : s.lock.state.isUnlocked = true := by rw [state]; rfl
      refine ⟨rfl, rfl, ?_, ⟨.inr ⟨rfl, rfl⟩⟩, rfl, rfl, rfl⟩
      rw [opened]
      exact (latchIf_true _ _).symm
    · have closed : s.lock.state.isUnlocked = false := by rw [state]; rfl
      have kept := admissionOf_of_not_unlocked
        (t := evalMembership (setFailures 0 { s with lock := { s.lock with state := .locked } })) closed
        rfl rfl rfl rfl rfl
      refine ⟨rfl, rfl, ?_, ⟨.inl ⟨rfl, rfl, kept⟩⟩, rfl, rfl, rfl⟩
      rw [closed]
      exact (latchIf_false _ _).symm

end Sys2Proof.Machine
end

section
/-!
A room record for either slot (O30): what its consumers have done so far, whatever their order
(`RecordTaken`), and what they have done at the end.
-/
namespace Sys2Proof.Machine

/-! ### The flush of the packages no longer held (R81) -/

theorem keptByRecord_iff (s : State) (k : KeySlot) : keptByRecord s k = true ↔
    ∀ row, serviceRow s k.label = some row → row.access = .package → holdsPackage s row.package = true := by
  unfold keptByRecord
  cases serviceRow s k.label with
  | none => simp
  | some r => by_cases access : r.access = .package <;> simp [access]

theorem lockFieldsDiffer_eq (old new : RoomRecord) : lockFieldsDiffer old new =
    decide (old.pin ≠ new.pin ∨ old.lockMode ≠ new.lockMode ∨ old.threshold ≠ new.threshold) := by
  simp only [lockFieldsDiffer, bne, beq_eq_decide, Bool.decide_or, ne_eq, decide_not, Bool.or_assoc]

/-! ### The reactions to the active record changed event (R100) -/

/-- R100: the part under the new record, before any consumer has taken the event. -/
def recordReplaced (new : RoomRecord) (s : State) : State :=
  { usedChoice s with ret := { s.ret with active := some new } }

/-- R121: the part with its lock closed where `closes`. -/
def lockedWhere (closes : Bool) (s : State) : State :=
  { s with lock := { s.lock with state := if closes then .locked else s.lock.state } }

/-- R100, R121: from `e` to `u` the consumers in `done` have taken the active record changed event, at which the
lock is closed where `closes`: what they have written, the outputs apart. -/
structure RecordWritten (closes : Bool) (e : State) (done : List Consumer) (u : State) : Prop where
  ret : u.ret = { e.ret with failures := if .lock ∈ done ∧ closes = true then 0 else e.ret.failures }
  lock : u.lock = if .lock ∈ done then
      { state := if closes then .locked else e.lock.state, membership := membershipNow e }
    else e.lock
  slots : SlotsFlushed (fun k => .keys ∈ done → keptByRecord e k = true) e.keys.slots u.keys.slots
  alerts : u.alerts =
    e.alerts.latchIf (decide (.lock ∈ done) && closes && e.lock.state.isUnlocked) .sessionEnded
  offer : u.offer = e.offer
  frame : ByStay e u

/-- R100, R167: what the consumers in `done` have written, and what they have left on the outputs. -/
structure RecordTaken (closes : Bool) (e : State) (done : List Consumer) (u : State) : Prop where
  written : RecordWritten closes e done u
  purged : ∀ o, OutputPurged [admissionOf e, admissionOf (lockedWhere closes e)] (output e o) (output u o)
  admitted : .gate ∈ done → PassedAdmitted u u.outA ∧ PassedAdmitted u u.outB

section
variable {closes : Bool} {e u : State} {done : List Consumer}

namespace RecordWritten

theorem start (closes : Bool) (e : State) : RecordWritten closes e [] e where
  ret := by simp
  lock := by simp
  slots := .refl (by simp)
  alerts := by simp
  offer := rfl
  frame := rfl

/-- R100: what is written is said of the Lock Unit and the Key Table alone. -/
theorem past (h : RecordWritten closes e done u) {c : Consumer} (lock : .lock ≠ c) (keys : .keys ≠ c) :
    RecordWritten closes e (c :: done) u where
  ret := by simpa [lock] using h.ret
  lock := by simpa [lock] using h.lock
  slots := by simpa [keys] using h.slots
  alerts := by simpa [lock] using h.alerts
  offer := h.offer
  frame := h.frame

theorem purge (h : RecordWritten closes e done u) : RecordWritten closes e done (purge u) :=
  ⟨h.ret, h.lock, h.slots, h.alerts, h.offer, h.frame.trans rfl⟩

theorem guest (h : RecordWritten closes e done u) : guest u = guest e := by
  simp only [Machine.guest, h.ret]

theorem keptByRecord (h : RecordWritten closes e done u) : keptByRecord u = keptByRecord e := by
  funext k
  simp only [Machine.keptByRecord, h.frame.serviceRow, holdsPackage, h.guest]

/-- R162: the admission is that of the new record, with the lock as it stood or closed. -/
theorem admission (h : RecordWritten closes e done u) : admissionOf u =
    if .lock ∈ done then admissionOf (lockedWhere closes e) else admissionOf e := by
  have bought (f : Nat) : isBought u f = isBought e f := by simp only [isBought, h.ret]
  have lock := h.lock
  split at lock <;> rename_i taken
  · rw [if_pos taken]
    funext n
    exact admissionOf_congr h.frame.emergency (congrArg _ h.frame.svc) h.guest (congrArg _ h.frame.time)
      (by rw [lock]; rfl) fun r _ => bought r.film
  · rw [if_neg taken]
    funext n
    exact admissionOf_congr h.frame.emergency (congrArg _ h.frame.svc) h.guest (congrArg _ h.frame.time)
      (by rw [lock]) fun r _ => bought r.film

theorem admission_mem (h : RecordWritten closes e done u) :
    admissionOf u ∈ [admissionOf e, admissionOf (lockedWhere closes e)] := by
  rw [h.admission]
  split <;> simp

theorem keys (h : RecordWritten closes e done u) :
    RecordWritten closes e (.keys :: done) (flushKeys (Machine.keptByRecord u) u) where
  ret := by simpa using h.ret
  lock := by simpa using h.lock
  slots := by
    have flushed := flushSlots_flushed (keep := Machine.keptByRecord u) (fun _ => Iff.rfl) u.keys.slots
    refine (h.slots.trans flushed).congr fun k => ?_
    rw [h.keptByRecord]
    simp +contextual
  alerts := by simpa using h.alerts
  offer := h.offer
  frame := h.frame.trans rfl

theorem lockUnit (h : RecordWritten closes e done u) (fresh : .lock ∉ done) :
    RecordWritten closes e (.lock :: done) (takeRecordChanged closes .lock u) := by
  obtain ⟨ret, lock, slots, alerts, offer, frame⟩ := h
  simp only [fresh, if_false, false_and, decide_false, Bool.false_and, latchIf_false] at ret lock alerts
  have reacts := takeRecordChanged_lock closes u
  have member : membershipNow u = membershipNow e :=
    membershipNow_congr (by rw [ret]) (by rw [ret]) (by rw [frame.time])
  refine ⟨?_, ?_, ?_, ?_, reacts.offer.trans offer, frame.trans reacts.frame⟩
  · rw [reacts.ret, ret]
    simp
  · rw [reacts.lock, lock, member]
    simp
  · rw [reacts.keys]
    simpa using slots
  · rw [reacts.alerts, alerts, lock]
    simp

end RecordWritten

namespace RecordTaken

theorem start (closes : Bool) (e : State) : RecordTaken closes e [] e :=
  ⟨.start closes e, fun _ => .refl _ _, by simp⟩

/-- R100: one more consumer takes the event. -/
theorem take (h : RecordTaken closes e done u) {c : Consumer} (mem : c ∈ [Consumer.keys, .lock, .meter, .gate])
    (fresh : c ∉ done) : RecordTaken closes e (c :: done) (takeRecordChanged closes c u) := by
  obtain ⟨written, purged, admitted⟩ := h
  cases c with
  | keys => exact ⟨written.keys, purged, fun gated => admitted (by simpa using gated)⟩
  | lock =>
    have locked := written.lockUnit fresh
    have reacts := (takeRecordChanged_lock closes u).outputs
    exact ⟨locked, reacts.purged purged locked.admission_mem,
      fun gated => reacts.admitted (admitted (by simpa using gated))⟩
  | meter => exact ⟨written.past (by decide) (by decide), purged, fun gated => admitted (by simpa using gated)⟩
  | gate =>
    have written := written.purge
    exact ⟨written.past (by decide) (by decide), (purge_gateReacts u).purged purged written.admission_mem,
      fun _ => purge_admitted u⟩
  | loader => simp at mem
  | tenancy => simp at mem

end RecordTaken
end

/-- R100: what the consumers have done at the end, whatever their order. -/
theorem replaceActive_taken (old new : RoomRecord) (s : State) : ∃ done : List Consumer,
    done.Perm [.keys, .lock, .meter, .gate]
      ∧ RecordTaken (lockFieldsDiffer old new) (recordReplaced new s) done (replaceActive old new s) :=
  foldl_inOrder (by decide) (fun _ _ _ mem fresh h => h.take mem fresh) _ (.start _ _)

/-! ### The record's slot (R99, R100) -/

theorem exec_roomRecord_of_taken {s : State} {q : StampedUnit} {active : Bool} {r : RoomRecord}
    (taken : FeedTakes s .roomRecord q) (operands : readRoomRecord q.unit.payload = some (active, r)) :
    exec .roomRecord s =
      .next (if active then takeActive r (afterFeed s) else takePending r (afterFeed s)) :=
  congrArg Host.Outcome.next (onDirective_of_taken taken operands _)

theorem takeActive_of_stranger {r : RoomRecord} {s : State}
    (h : s.ret.tenancy ≠ .occupied ∨ ∀ old, s.ret.active = some old → r.tenancyId ≠ old.tenancyId) :
    takeActive r s = latch .directiveFault s := by
  unfold takeActive
  split
  · rename_i old present
    obtain ⟨occupied, active⟩ : s.ret.tenancy = .occupied ∧ s.ret.active = some old := by
      simpa [guest] using present
    exact if_neg ((h.resolve_left (absurd occupied)) old active)
  · rfl

theorem takeActive_of_guest {r old : RoomRecord} {s : State} (occupied : s.ret.tenancy = .occupied)
    (active : s.ret.active = some old) (same : r.tenancyId = old.tenancyId) :
    takeActive r s = replaceActive old r s := by
  simp [takeActive, guest_of_occupied occupied active, same]

end Sys2Proof.Machine

open Sys2Proof.Machine in
/-- Settles O30: the record's slot, and for the present stay what the four consumers have done at the end. -/
theorem roomRecordReachesItsSlot : Obligations.RoomRecordReachesItsSlot := by
  intro s q r taken p
  refine ⟨fun operands => exec_roomRecord_of_taken taken operands, fun operands stranger => ?_, ?present⟩
  · rw [exec_roomRecord_of_taken taken operands, if_pos rfl, takeActive_of_stranger stranger]
    rfl
  case present =>
    intro old operands occupied active same differs
    have run : exec .roomRecord s = .next (replaceActive old r p) := by
      rw [exec_roomRecord_of_taken taken operands, if_pos rfl, takeActive_of_guest occupied active same]
    obtain ⟨done, all, written, purged, admitted⟩ := replaceActive_taken old r p
    rw [show lockFieldsDiffer old r = differs from lockFieldsDiffer_eq old r] at written purged
    generalize replaceActive old r p = t at run written purged admitted
    have locked : .lock ∈ done := all.mem_iff.mpr (by decide)
    have flushed : .keys ∈ done := all.mem_iff.mpr (by decide)
    have gated : .gate ∈ done := all.mem_iff.mpr (by decide)
    have admission := written.admission
    obtain ⟨ret, lock, slots, alerts, offer, frame⟩ := written
    simp only [locked, if_true, true_and, decide_true, Bool.true_and] at ret lock alerts admission
    have host : guest (recordReplaced r p) = some r := guest_of_occupied occupied rfl
    refine ⟨t, run, ret, by rw [lock]; rfl, ?_, ?_, (admitted gated).1, (admitted gated).2, ?_, alerts, ?_⟩
    · rw [lock]
      exact (membershipNow_congr (by rw [ret]) (by rw [ret]) (by rw [frame.time])).symm
    · refine slots.congr fun k => ?_
      simp only [flushed, true_imp_iff, keptByRecord_iff, holdsPackage, host]
      exact Iff.rfl
    · rw [admission]
      exact purged
    · refine Eq.trans frame ?_
      rw [offer, alerts]
      rfl
end

section
/-!
A change of tenancy closes the stay (O31): what the consumers of the CLOSING start event have done so far,
whatever their order (`ClosingTaken`), and the completion that follows at once where every record has been
offered.
-/
namespace Sys2Proof.Machine

/-! ### The ends of the purchases, told of other states (R143) -/

theorem AllEnded.of_before {reason : EndReason} {s s' t : State} (h : AllEnded reason s t)
    (purchases : s'.ret.purchases = s.ret.purchases) (records : s'.ret.records = s.ret.records)
    (nextSerial : s'.ret.nextSerial = s.ret.nextSerial) (active : s'.ret.active = s.ret.active)
    (offer : s'.offer = s.offer) (time : s'.time = s.time) : AllEnded reason s' t := by
  obtain ⟨gone, kept, posted, serials, next, stamped, offered⟩ := h
  constructor
  all_goals simpa only [purchases, records, nextSerial, active, offer, time]

theorem AllEnded.of_after {reason : EndReason} {s t t' : State} (h : AllEnded reason s t)
    (purchases : t'.ret.purchases = t.ret.purchases) (records : t'.ret.records = t.ret.records)
    (nextSerial : t'.ret.nextSerial = t.ret.nextSerial) (offer : t'.offer = t.offer)
    (install : t'.install = t.install) : AllEnded reason s t' := by
  obtain ⟨gone, kept, posted, serials, next, stamped, offered⟩ := h
  constructor
  all_goals simpa only [purchases, records, nextSerial, offer, install]

theorem EndsAll.purged {reason : EndReason} {s t : State} (h : EndsAll reason s t) (o : OutputId) :
    OutputPurged [admissionOf s, admissionOf t] (output s o) (output t o) := by
  cases o
  · exact h.outA
  · exact h.outB

theorem EndsAll.byStay {reason : EndReason} {s t : State} (h : EndsAll reason s t) : ByStay s t := by
  refine Eq.trans h.rest ?_
  have lock : t.lock = s.lock := by rw [h.rest]
  rw [lock]

/-- R82, R143: the passed units that wait after the ends are those that may pass still. -/
theorem EndsAll.admitted {reason : EndReason} {s t : State} (h : EndsAll reason s t)
    (hs : PassedAdmitted s s.outA ∧ PassedAdmitted s s.outB) :
    PassedAdmitted t t.outA ∧ PassedAdmitted t t.outB := by
  by_cases none : s.ret.purchases = []
  · rw [h.whole none]
    exact hs
  · exact h.refused none

/-- R167: purges under some of the admissions. -/
theorem OutputPurged.mono {adms adms' : List (Nat → Verdict)} {before after : Output}
    (h : OutputPurged adms before after) (sub : adms ⊆ adms') : OutputPurged adms' before after :=
  (OutputPurged.refl adms' before).trans h fun a mem _ => ⟨a, sub mem, rfl⟩

/-! ### Admission in a room without a guest (R109, R110, R162) -/

/-- R109, R110: without a guest neither the lock nor the time decides. -/
theorem admissionOf_of_no_guest {s t : State} (emergency : t.emergency = s.emergency) (svc : t.svc = s.svc)
    (vacant : guest s = none) (vacant' : guest t = none) (purchases : t.ret.purchases = s.ret.purchases) :
    admissionOf t = admissionOf s := by
  have test (rating : Nat) : lockTest t rating = lockTest s rating := by
    rw [lockTest_of_no_guest vacant, lockTest_of_no_guest vacant']
  have holds (n : Nat) : holdsPackage t n = holdsPackage s n := by simp only [holdsPackage, vacant, vacant']
  funext n
  have row : serviceRow t n = serviceRow s n := by simp only [serviceRow, svc]
  rw [admissionOf, admissionOf, emergency, row]
  cases serviceRow s n with
  | none => rfl
  | some r =>
    have bought : isBought t r.film = isBought s r.film := by simp only [isBought, purchases]
    have same : admitRow t (some r) = admitRow s (some r) := by
      cases access : r.access <;> simp only [admitRow, access, test, holds, bought]
    rw [same]

/-! ### The reactions to the CLOSING start event (R103) -/

theorem takeClosing_lock (s : State) : takeClosing .lock s = takeRecordChanged true .lock s := rfl

/-- The part with no live purchase. -/
def withoutPurchases (s : State) : State := { s with ret := { s.ret with purchases := [] } }

/-- R103: from `e`, in CLOSING, to `u` the consumers in `done` have taken the CLOSING start event: what they have
written, the outputs apart. -/
structure ClosingWritten (e : State) (done : List Consumer) (u : State) : Prop where
  ret : u.ret = { e.ret with
    purchases := u.ret.purchases
    records := u.ret.records
    nextSerial := u.ret.nextSerial
    failures := if .lock ∈ done then 0 else e.ret.failures }
  unended : .meter ∉ done → u.ret.purchases = e.ret.purchases ∧ u.ret.records = e.ret.records
    ∧ u.ret.nextSerial = e.ret.nextSerial ∧ u.offer = e.offer
  ended : .meter ∈ done → AllEnded .tenancy e u
  slots : SlotsFlushed
    (fun k => (.keys ∈ done → k.house = true)
      ∧ (.meter ∈ done → ∀ row, serviceRow e k.label = some row → row.access = .film →
        ∀ x ∈ e.ret.purchases, row.film ≠ x.film))
    e.keys.slots u.keys.slots
  lock : u.lock = if .lock ∈ done then { state := .locked, membership := .none } else e.lock
  latched : ∀ src, u.alerts.isLatched src = true ↔ e.alerts.isLatched src = true
    ∨ (src = .sessionEnded ∧ .lock ∈ done ∧ e.lock.state.isUnlocked = true)
    ∨ (src = .purchaseEnded ∧ .meter ∈ done ∧ e.ret.purchases ≠ [])
    ∨ (src = .billingHigh ∧ .meter ∈ done
      ∧ PostsReachBillingHigh e e.ret.records.length e.ret.purchases.length)
  frame : ByStay e u

/-- R103, R167: what the consumers in `done` have written, and what they have left on the outputs. -/
structure ClosingTaken (e : State) (done : List Consumer) (u : State) : Prop where
  written : ClosingWritten e done u
  purged : ∀ o, OutputPurged [admissionOf e, admissionOf (withoutPurchases e)] (output e o) (output u o)
  admitted : .gate ∈ done → PassedAdmitted u u.outA ∧ PassedAdmitted u u.outB

section
variable {e u : State} {done : List Consumer} (closing : e.ret.tenancy = .closing)

namespace ClosingWritten

theorem start (e : State) : ClosingWritten e [] e where
  ret := by simp
  unended _ := ⟨rfl, rfl, rfl, rfl⟩
  ended := by simp
  slots := .refl (by simp)
  lock := by simp
  latched := by simp
  frame := rfl

/-- R103: what is written is said of the Lock Unit, the Purchase Meter and the Key Table alone. -/
theorem gate (h : ClosingWritten e done u) : ClosingWritten e (.gate :: done) (purge u) where
  ret := by simpa using h.ret
  unended := by simpa using h.unended
  ended ends := (h.ended (by simpa using ends)).of_after rfl rfl rfl rfl rfl
  slots := by simpa using h.slots
  lock := by simpa using h.lock
  latched := by simpa using h.latched
  frame := h.frame.trans rfl

theorem keys (h : ClosingWritten e done u) : ClosingWritten e (.keys :: done) (flushAtClosing u) where
  ret := by simpa using h.ret
  unended := by simpa using h.unended
  ended ends := (h.ended (by simpa using ends)).of_after rfl rfl rfl rfl rfl
  slots := by
    have flushed := flushSlots_flushed (keep := (·.house)) (fun _ => Iff.rfl) u.keys.slots
    refine (h.slots.trans flushed).congr fun k => ?_
    simp only [List.mem_cons, reduceCtorEq, false_or, true_or, true_imp_iff]
    exact ⟨fun ⟨⟨_, ends⟩, house⟩ => ⟨house, ends⟩,
      fun ⟨house, ends⟩ => ⟨⟨fun _ => house, ends⟩, house⟩⟩
  lock := by simpa using h.lock
  latched := by simpa using h.latched
  frame := h.frame.trans rfl

theorem meter (h : ClosingWritten e done u) (fresh : .meter ∉ done) :
    ClosingWritten e (.meter :: done) (endAll .tenancy u) := by
  obtain ⟨ret, unended, -, slots, lock, latched, frame⟩ := h
  obtain ⟨purchases, records, nextSerial, offer⟩ := unended fresh
  have ends := endAll_spec .tenancy u
  have endsRet := ends.ret
  generalize endAll .tenancy u = t at ends endsRet
  have tLock : t.lock = u.lock := by rw [ends.rest]
  refine ⟨?_, by simp, fun _ => ?_, ?_, ?_, fun src => ?_, frame.trans ends.byStay⟩
  · rw [ends.ended.purchases]
    conv_lhs => rw [endsRet, ret]
    simp
  · exact ends.ended.of_before purchases.symm records.symm nextSerial.symm (by rw [ret]) offer.symm
      frame.time.symm
  · refine (slots.trans ends.keys).congr fun k => ?_
    simp only [frame.serviceRow, purchases]
    simp [fresh]
  · rw [tLock, lock]
    simp
  · have reach : PostsReachBillingHigh u u.ret.records.length u.ret.purchases.length ↔
        PostsReachBillingHigh e e.ret.records.length e.ret.purchases.length := by
      rw [records, purchases, PostsReachBillingHigh, PostsReachBillingHigh, frame.sense, frame.install]
    rw [ends.latched, latched, reach, purchases]
    simp only [List.mem_cons, fresh, reduceCtorEq, false_or, true_and, false_and, and_false, or_false,
      or_assoc]

include closing

theorem no_guest (h : ClosingWritten e done u) : guest u = none := by
  refine guest_of_not_occupied ?_
  rw [h.ret]
  simp [closing]

theorem lockUnit (h : ClosingWritten e done u) (fresh : .lock ∉ done) :
    ClosingWritten e (.lock :: done) (takeClosing .lock u) := by
  have member : membershipNow u = .none := by rw [membershipNow, h.no_guest closing]
  obtain ⟨ret, unended, ended, slots, lock, latched, frame⟩ := h
  rw [takeClosing_lock]
  have reacts := takeRecordChanged_lock true u
  have reactsRet := reacts.ret
  generalize takeRecordChanged true .lock u = t at reacts reactsRet
  have purchases : t.ret.purchases = u.ret.purchases := by rw [reactsRet]
  have records : t.ret.records = u.ret.records := by rw [reactsRet]
  have nextSerial : t.ret.nextSerial = u.ret.nextSerial := by rw [reactsRet]
  simp only [fresh, if_false] at ret lock
  refine ⟨?_, ?_, ?_, ?_, ?_, fun src => ?_, frame.trans reacts.frame⟩
  · rw [purchases, records, nextSerial, reactsRet, ret]
    simp
  · rw [purchases, records, nextSerial, reacts.offer]
    simpa using unended
  · exact fun ends => (ended (by simpa using ends)).of_after purchases records nextSerial reacts.offer
      reacts.frame.install
  · rw [reacts.keys]
    simpa using slots
  · rw [reacts.lock, member]
    simp
  · rw [reacts.alerts, AlertUnit.isLatched_latchIf, Bool.or_eq_true, latched src]
    simp only [List.mem_cons, fresh, reduceCtorEq, true_or, false_or, true_and, false_and, and_false,
      Bool.true_and, Bool.and_eq_true, decide_eq_true_eq]
    rw [or_right_comm, or_assoc, and_comm (a := u.lock.state.isUnlocked = true), lock]

/-- R162: in CLOSING the purchases alone decide. -/
theorem admission (h : ClosingWritten e done u) : admissionOf u =
    if .meter ∈ done then admissionOf (withoutPurchases e) else admissionOf e := by
  have vacant : guest e = none := guest_of_not_occupied (by rw [closing]; decide)
  split
  · rename_i ends
    exact admissionOf_of_no_guest h.frame.emergency h.frame.svc vacant (h.no_guest closing) (h.ended ends).purchases
  · rename_i ends
    exact admissionOf_of_no_guest h.frame.emergency h.frame.svc vacant (h.no_guest closing) (h.unended ends).1

theorem admission_mem (h : ClosingWritten e done u) :
    admissionOf u ∈ [admissionOf e, admissionOf (withoutPurchases e)] := by
  rw [h.admission closing]
  split <;> simp

end ClosingWritten

namespace ClosingTaken

theorem start (e : State) : ClosingTaken e [] e := ⟨.start e, fun _ => .refl _ _, by simp⟩

include closing

/-- R103: one more consumer takes the event. -/
theorem take (h : ClosingTaken e done u) {c : Consumer} (mem : c ∈ [Consumer.meter, .keys, .lock, .gate])
    (fresh : c ∉ done) : ClosingTaken e (c :: done) (takeClosing c u) := by
  obtain ⟨written, purged, admitted⟩ := h
  cases c with
  | meter =>
    have ended := written.meter fresh
    have ends := endAll_spec .tenancy u
    refine ⟨ended, fun o => (purged o).trans (ends.purged o) fun a mem' n => ⟨a, ?_, rfl⟩,
      fun gated => ends.admitted (admitted (by simpa using gated))⟩
    rcases List.mem_pair.mp mem' with rfl | rfl
    · exact written.admission_mem closing
    · exact ended.admission_mem closing
  | keys => exact ⟨written.keys, purged, fun gated => admitted (by simpa using gated)⟩
  | lock =>
    have locked := written.lockUnit closing fresh
    have reacts := (takeRecordChanged_lock true u).outputs
    exact ⟨locked, reacts.purged purged (locked.admission_mem closing),
      fun gated => reacts.admitted (admitted (by simpa using gated))⟩
  | gate =>
    exact ⟨written.gate, (purge_gateReacts u).purged purged (written.gate.admission_mem closing),
      fun _ => purge_admitted u⟩
  | loader => simp at mem
  | tenancy => simp at mem

end ClosingTaken
end

/-- R103: what the consumers have done at the end, whatever their order. -/
theorem closing_taken (order : List Consumer) {e : State} (closing : e.ret.tenancy = .closing) :
    ∃ done : List Consumer, done.Perm [.meter, .keys, .lock, .gate]
      ∧ ClosingTaken e done
        ((inOrder order [.meter, .keys, .lock, .gate]).foldl (fun s c => takeClosing c s) e) :=
  foldl_inOrder (by decide) (fun _ _ _ mem fresh h => h.take closing mem fresh) order (.start e)

/-! ### The completion at once (R104, R106) -/

theorem testCompletion_of_offered {s : State} (hrun : running s = true) (closing : s.ret.tenancy = .closing)
    (offered : ∀ rec ∈ s.ret.records, rec.offered = true) : testCompletion s = completeTenancy s := by
  have all : allOffered s = true := List.all_eq_true.mpr offered
  simp [testCompletion, hrun, closing, all]

theorem testCompletion_of_unoffered {s : State} (h : ∃ rec ∈ s.ret.records, rec.offered = false) :
    testCompletion s = s := by
  obtain ⟨rec, mem, clear⟩ := h
  have some_clear : allOffered s = false := List.all_eq_false.mpr ⟨rec, mem, by simp [clear]⟩
  simp [testCompletion, some_clear]

/-- R103, R106: the fields that a change of tenancy can reach. -/
def ByClosing (s t : State) : Prop :=
  t = { s with
    ret := t.ret
    lock := t.lock
    closing := t.closing
    offer := t.offer
    keys := { s.keys with slots := t.keys.slots }
    outA := t.outA
    outB := t.outB
    alerts := { s.alerts with latched := t.alerts.latched } }

theorem ByClosing.trans {s t u : State} (h : ByClosing s t) (k : ByClosing t u) : ByClosing s u := by
  refine Eq.trans k ?_
  rw [h]

theorem ByStay.byClosing {s t : State} (h : ByStay s t) : ByClosing s t := by
  refine Eq.trans h ?_
  rw [h.closing]

theorem completeTenancy_byClosing (s : State) : ByClosing s (completeTenancy s) := rfl

/-- R103: the part in CLOSING, before any consumer has taken the event. -/
def stayClosing (s : State) : State := enterClosing (usedChoice s)

/-- R103: the part when every consumer has taken the event, before the first test of the completion condition. -/
def stayClosed (s : State) : State :=
  (inOrder (nextChoice s).order [.meter, .keys, .lock, .gate]).foldl (fun s c => takeClosing c s) (stayClosing s)

theorem beginClosing_eq (s : State) : beginClosing s = testCompletion (stayClosed s) := rfl

theorem exec_tenancyChange_of_taken {s : State} {q : StampedUnit} (taken : FeedTakes s .tenancyChange q)
    (operands : readNoBody q.unit.payload = some ()) : exec .tenancyChange s =
      .next (if (afterFeed s).ret.tenancy = .closing then afterFeed s else beginClosing (afterFeed s)) :=
  congrArg Host.Outcome.next (onDirective_of_taken taken operands _)

/-- The part in CLOSING with these live purchases. -/
def closedWith (s : State) (purchases : List Purchase) : State :=
  { s with ret := { s.ret with tenancy := .closing, purchases := purchases } }

/-- R103: from `p` to `v` the stay has been closed, whatever the order of the consumers. -/
structure StayClosed (p v : State) : Prop where
  ended : AllEnded .tenancy p v
  ret : v.ret = { p.ret with
    tenancy := .closing
    incoming := p.ret.waiting
    waiting := none
    purchases := []
    records := v.ret.records
    nextSerial := v.ret.nextSerial
    failures := 0 }
  slots : SlotsFlushed
    (fun k => k.house = true
      ∧ ∀ row, serviceRow p k.label = some row → row.access = .film → ∀ x ∈ p.ret.purchases, row.film ≠ x.film)
    p.keys.slots v.keys.slots
  lock : v.lock = { state := .locked, membership := .none }
  closing : v.closing = some (p.time.mono + 60)
  latched : ∀ src, v.alerts.isLatched src = true ↔ p.alerts.isLatched src = true
    ∨ (src = .sessionEnded ∧ ∃ e, p.lock.state = .unlocked e)
    ∨ (src = .purchaseEnded ∧ p.ret.purchases ≠ [])
    ∨ (src = .billingHigh ∧ PostsReachBillingHigh p p.ret.records.length p.ret.purchases.length)
  purged : ∀ o, OutputPurged [admissionOf (closedWith p p.ret.purchases), admissionOf (closedWith p [])]
    (output p o) (output v o)
  admission : admissionOf v = admissionOf (closedWith p [])
  admitted : PassedAdmitted (closedWith p []) v.outA ∧ PassedAdmitted (closedWith p []) v.outB
  frame : ByClosing (usedChoice p) v

theorem StayClosed.running {p v : State} (h : StayClosed p v) : running v = running p := by
  have power : v.power = p.power := by rw [h.frame]; rfl
  simp only [Machine.running, live, power]

theorem isUnlocked_iff (state : LockState) : state.isUnlocked = true ↔ ∃ e, state = .unlocked e := by
  cases state <;> simp [LockState.isUnlocked]

theorem stayClosed_spec (p : State) : StayClosed p (stayClosed p) := by
  obtain ⟨done, all, closed⟩ : ∃ done : List Consumer, done.Perm [.meter, .keys, .lock, .gate]
      ∧ ClosingTaken (stayClosing p) done (stayClosed p) := closing_taken (nextChoice p).order rfl
  generalize stayClosed p = v at closed
  obtain ⟨written, purged, admitted⟩ := closed
  have metered : .meter ∈ done := all.mem_iff.mpr (by decide)
  have flushed : .keys ∈ done := all.mem_iff.mpr (by decide)
  have locked : .lock ∈ done := all.mem_iff.mpr (by decide)
  have gated : .gate ∈ done := all.mem_iff.mpr (by decide)
  have admission := written.admission rfl
  obtain ⟨ret, -, ended, slots, lock, latched, frame⟩ := written
  have ended := ended metered
  simp only [metered, flushed, locked, if_true, true_and, true_imp_iff, isUnlocked_iff]
    at ret slots lock latched admission
  rw [ended.purchases] at ret
  have admission : admissionOf v = admissionOf (closedWith p []) := admission
  exact {
    ended := ended.of_before rfl rfl rfl rfl rfl rfl
    ret := ret
    slots := slots
    lock := lock
    closing := frame.closing
    latched := latched
    purged := purged
    admission := admission
    admitted := ⟨(admitted gated).1.congr admission.symm, (admitted gated).2.congr admission.symm⟩
    frame := ByClosing.trans (t := stayClosing p) rfl frame.byClosing }

end Sys2Proof.Machine

open Sys2Proof.Machine in
/-- Settles O31: in CLOSING nothing; otherwise the stay is closed, and by the offered marks of the records the
change completes at once or waits in CLOSING. -/
theorem tenancyChangeClosesTheStay : Obligations.TenancyChangeClosesTheStay := by
  intro s q taken operands p closed
  have run := exec_tenancyChange_of_taken taken operands
  refine ⟨fun already => run.trans (congrArg _ (if_pos already)), fun before => ?_⟩
  have run : exec .tenancyChange s = .next (testCompletion (stayClosed p)) :=
    run.trans (congrArg _ (if_neg before))
  have spec := stayClosed_spec p
  generalize stayClosed p = v at run spec
  have hrun : running v = true := spec.running.trans (running_afterFeed taken)
  obtain ⟨ended, ret, slots, lock, closing, latched, purged, admission, admitted, closedFrame⟩ := spec
  have purged (o : Sys2Proof.OutputId) (adm : Nat → Verdict) :
      OutputPurged [admissionOf (closed p.ret.purchases), admissionOf (closed []), adm] (output p o) (output v o) :=
    (purged o).mono (List.subset_append_left _ [adm])
  by_cases offered : ∀ rec ∈ v.ret.records, rec.offered = true
  case pos =>
    rw [testCompletion_of_offered hrun (by rw [ret]) offered] at run
    have frame := closedFrame.trans (completeTenancy_byClosing v)
    have completed := completeTenancy_completed v
    generalize completeTenancy v = t at run frame completed
    obtain ⟨tRet, tClosing, tAlerts, tLock, tOutA, tOutB, others⟩ := completed
    have keys : t.keys = v.keys := by rw [others]
    have offer : t.offer = v.offer := by rw [others]
    have install : t.install = v.install := by rw [others]
    have records : t.ret.records = v.ret.records := by rw [tRet]
    have time : v.time = p.time := by rw [closedFrame]; rfl
    refine ⟨t, run, ended.of_after (by rw [tRet]) records (by rw [tRet]) offer install, keys ▸ slots,
      by rw [tLock], by rw [tLock], by rw [tRet], by rw [tRet, ret], by rw [tRet, ret], fun o => ?_,
      tOutA ▸ admitted.1.purged _, tOutB ▸ admitted.2.purged _, ?_, ?_, fun ⟨rec, mem, clear⟩ => ?_, fun _ => ?_,
      fun src => ?_, frame⟩
    · have same : output t o = (output v o).purged (admissionOf t) := by
        cases o
        · exact tOutA
        · exact tOutB
      rw [same]
      exact (purged o (admissionOf t)).purged fun _ => ⟨admissionOf t, by simp, rfl⟩
    · rw [tOutA]
      exact fun _ => purged_admitted _ _
    · rw [tOutB]
      exact fun _ => purged_admitted _ _
    · rw [records] at mem
      cases clear.symm.trans (offered rec mem)
    · rw [tRet, ret, time]
      exact ⟨rfl, rfl, rfl, tClosing, rfl, rfl⟩
    · rw [tAlerts, AlertUnit.isLatched_latch, Bool.or_eq_true, latched src, records, and_iff_left offered]
      simp only [decide_eq_true_eq, or_assoc]
  case neg =>
    have unoffered : ∃ rec ∈ v.ret.records, rec.offered = false := by simpa using offered
    rw [testCompletion_of_unoffered unoffered] at run
    have vacant : v.ret.tenancy ≠ .occupied := by rw [ret]; simp
    refine ⟨v, run, ended, slots, by rw [lock], ?_, by rw [ret], by rw [ret], by rw [ret],
      fun o => purged o _, admitted.1, admitted.2, admitted.1.congr admission,
      admitted.2.congr admission, fun _ => ?_, fun all => absurd all offered, fun src => ?_, closedFrame⟩
    · rw [lock, membershipNow_of_not_occupied vacant]
    · rw [ret]
      exact ⟨rfl, rfl, rfl, closing, rfl, rfl⟩
    · rw [latched src]
      simp only [offered, and_false, or_false]
end

section
/-!
The slot test of every LOADED key slot (O57): what the operations of the part do to the slots and to what the test
reads (`SlotsKept`).
-/
namespace Sys2Proof.Machine

/-! ### What every step keeps (R79) -/

/-- R79: every LOADED slot satisfies the slot test. -/
def Entitled (s : State) : Prop := ∀ k, some k ∈ s.keys.slots → slotOk s k = true

/-- R87: every slot is EMPTY. -/
def AllEmpty (s : State) : Prop := ∀ k, some k ∉ s.keys.slots

theorem AllEmpty.entitled {s : State} (h : AllEmpty s) : Entitled s := fun k mem => absurd mem (h k)

theorem slotsEntitled_iff (s : State) : SlotsEntitled s ↔
    (s.power.mainSupply = true → Entitled s ∧ (s.power.phase ≠ .running → AllEmpty s)) := by
  refine imp_congr_right fun _ => and_congr ?_ (imp_congr_right fun _ => ?_)
  · exact ⟨fun h k mem => h _ mem k rfl, fun h slot mem k e => h k (Option.mem_def.mp e ▸ mem)⟩
  · refine ⟨fun h k mem => (by cases h _ mem), fun h slot mem => ?_⟩
    cases slot with
    | none => rfl
    | some k => exact absurd mem (h k)

/-- R79: from `s` to `t` the supply and the phase of the start stand, LOADED slots that satisfy the slot test still
do, and in STARTING EMPTY slots stay EMPTY. -/
structure SlotsKept (s t : State) : Prop where
  mainSupply : t.power.mainSupply = s.power.mainSupply
  phase : t.power.phase = s.power.phase
  entitled : Entitled s → Entitled t
  empty : s.power.phase ≠ .running → AllEmpty s → AllEmpty t

namespace SlotsKept

theorem refl (s : State) : SlotsKept s s := ⟨rfl, rfl, id, fun _ => id⟩

theorem trans {s t u : State} (h : SlotsKept s t) (k : SlotsKept t u) : SlotsKept s u :=
  ⟨k.mainSupply.trans h.mainSupply, k.phase.trans h.phase, k.entitled ∘ h.entitled,
    fun starting => k.empty (h.phase ▸ starting) ∘ h.empty starting⟩

theorem foldl {α : Type} (f : State → α → State) (hf : ∀ s a, SlotsKept s (f s a)) :
    ∀ (l : List α) (s : State), SlotsKept s (l.foldl f s)
  | [], s => .refl s
  | a :: l, s => (hf s a).trans (SlotsKept.foldl f hf l (f s a))

theorem slotsEntitled {s t : State} (h : SlotsKept s t) (hs : SlotsEntitled s) : SlotsEntitled t := by
  rw [slotsEntitled_iff] at hs ⊢
  rw [h.mainSupply, h.phase]
  intro powered
  obtain ⟨entitled, empty⟩ := hs powered
  exact ⟨h.entitled entitled, fun starting => h.empty starting (empty starting)⟩

/-- R79: every slot that is LOADED comes from a LOADED slot, with which it keeps the test. -/
theorem of_origin {s t : State} (power : t.power = s.power) (origin : ∀ k, some k ∈ t.keys.slots →
    ∃ k₀, some k₀ ∈ s.keys.slots ∧ (slotOk s k₀ = true → slotOk t k = true)) : SlotsKept s t where
  mainSupply := congrArg _ power
  phase := congrArg _ power
  entitled hs k mem := by
    obtain ⟨k₀, mem₀, test⟩ := origin k mem
    exact test (hs k₀ mem₀)
  empty _ hs k mem := by
    obtain ⟨k₀, mem₀, -⟩ := origin k mem
    exact hs k₀ mem₀

/-- R79: an operation that changes neither the slots nor what the test reads. -/
theorem of_same {s t : State} (power : t.power = s.power) (slots : t.keys.slots = s.keys.slots)
    (test : slotOk t = slotOk s) : SlotsKept s t :=
  of_origin power fun k mem => ⟨k, slots ▸ mem, fun h => test ▸ h⟩

end SlotsKept

/-! ### The slot test (R79) -/

/-- R79: the slot test passes on where the rows stand and no package and no film is lost. -/
theorem slotOk_mono {s t : State} (svc : t.svc = s.svc)
    (packages : ∀ n, holdsPackage s n = true → holdsPackage t n = true)
    (films : ∀ f, isBought s f = true → isBought t f = true) {k : KeySlot} (h : slotOk s k = true) :
    slotOk t k = true := by
  obtain ⟨r, row, test⟩ := (slotOk_iff s k).mp h
  refine (slotOk_iff t k).mpr ⟨r, by simpa only [serviceRow, svc] using row, ?_⟩
  exact test.imp_right (.imp (fun ⟨access, house, held⟩ => ⟨access, house, packages _ held⟩)
    fun ⟨access, house, bought⟩ => ⟨access, house, films _ bought⟩)

theorem slotOk_congr {s : State} {k k' : KeySlot} (label : k'.label = k.label) (house : k'.house = k.house) :
    slotOk s k' = slotOk s k := by
  simp only [slotOk, label, house]

/-- R79: the films of the live purchases are all that the test reads of them. -/
theorem slotOk_eq_of_films {s t : State} (svc : t.svc = s.svc) (guest' : guest t = guest s)
    (films : t.ret.purchases.map (·.film) = s.ret.purchases.map (·.film)) : slotOk t = slotOk s := by
  have bought (f : Nat) : isBought t f = isBought s f := by
    have any (u : State) : isBought u f = (u.ret.purchases.map (·.film)).any (· == f) := by
      rw [List.any_map]
      rfl
    rw [any, any, films]
  funext k
  simp only [slotOk, serviceRow, svc, holdsPackage, guest', bought]

theorem SlotsFlushed.kept_of_mem {kept : KeySlot → Prop} {before after : List (Option KeySlot)}
    (h : SlotsFlushed kept before after) {k : KeySlot} (mem : some k ∈ after) : some k ∈ before ∧ kept k := by
  obtain ⟨length, empty, loaded⟩ := h
  obtain ⟨i, at_i⟩ := List.mem_iff_getElem?.mp mem
  have inside : i < before.length := length ▸ (List.getElem?_eq_some_iff.mp at_i).1
  cases was : before[i]'inside with
  | none => cases (empty i (List.getElem?_eq_some_iff.mpr ⟨inside, was⟩)).symm.trans at_i
  | some k₀ =>
    have was := List.getElem?_eq_some_iff.mpr ⟨inside, was⟩
    by_cases keep : kept k₀
    · cases ((loaded i k₀ was).1 keep).symm.trans at_i
      exact ⟨List.mem_iff_getElem?.mpr ⟨i, was⟩, keep⟩
    · cases ((loaded i k₀ was).2 keep).symm.trans at_i

/-- R80 to R83: a flush of slots that keeps the test of those it keeps. -/
theorem SlotsKept.of_flush {s t : State} {kept : KeySlot → Prop} (power : t.power = s.power)
    (flushed : SlotsFlushed kept s.keys.slots t.keys.slots)
    (test : ∀ k, kept k → slotOk s k = true → slotOk t k = true) : SlotsKept s t :=
  .of_origin power fun k mem => ⟨k, (flushed.kept_of_mem mem).1, test k (flushed.kept_of_mem mem).2⟩

/-! ### The Lock Unit -/

theorem ByLock.slotsKept {s t : State} (h : ByLock s t) : SlotsKept s t := by
  rw [h]
  exact .of_same rfl rfl rfl

theorem closeLock_slotsKept (s : State) : SlotsKept s (closeLock s) := by
  rcases closeLock_cases s with ⟨_, e⟩ | ⟨_, _, e⟩ | ⟨_, _, e⟩ <;> rw [e]
  · exact .refl s
  · exact .of_same rfl rfl rfl
  · exact .of_same rfl rfl rfl

theorem setFailures_slotsKept (n : Nat) (s : State) : SlotsKept s (setFailures n s) := .of_same rfl rfl rfl

theorem wrongPin_slotsKept (s : State) : SlotsKept s (wrongPin s) := by
  unfold wrongPin
  split
  · exact .of_same rfl rfl rfl
  · split <;> exact .of_same rfl rfl rfl
  · exact .refl s

theorem enterPin_slotsKept (digits : Pin) (s : State) : SlotsKept s (enterPin digits s).1 := by
  have opened (n : Nat) : SlotsKept s (setFailures 0 (openSession n s)) := .of_same rfl rfl rfl
  unfold enterPin
  repeat' split
  all_goals first
    | exact .refl s
    | exact opened _
    | exact wrongPin_slotsKept s

theorem relockNow_slotsKept (s : State) : SlotsKept s (relockNow s) := by
  unfold relockNow
  split
  · exact .of_same rfl rfl rfl
  · exact .refl s
  · exact .refl s

/-! ### The Purchase Meter -/

/-- The end of a purchase takes no other purchase from the table. -/
theorem mem_eraseP_of_ne {n : Nat} {p x : Purchase} {l : List Purchase}
    (found : l.find? (fun q => q.number == n) = some p) (mem : x ∈ l) (ne : x ≠ p) :
    x ∈ l.eraseP (fun q => q.number == n) := by
  obtain ⟨carries, before, after, rfl, none_before⟩ := List.find?_eq_some_iff_append.mp found
  rw [List.eraseP_append_right _ fun q hq => by simpa using none_before q hq, 
    List.eraseP_cons_of_pos (p := fun q : Purchase => q.number == n) carries]
  simpa [ne] using mem

/-- R79, R82: the slots of its film go with the purchase. -/
theorem endPurchase_slotsKept (n : Nat) (reason : EndReason) (s : State) :
    SlotsKept s (endPurchase n reason s) := by
  cases live : purchaseOf s n with
  | none =>
    rw [endPurchase, live]
    exact .refl s
  | some p =>
    rw [endPurchase_of_live live]
    refine .of_flush rfl (flushSlots_flushed (keptByEnd_iff s p.film) _) fun k kept test => ?_
    obtain ⟨r, row, test⟩ := (slotOk_iff s k).mp test
    refine (slotOk_iff _ k).mpr ⟨r, row, test.imp_right (.imp_right fun ⟨access, house, bought⟩ => ⟨access, house, ?_⟩)⟩
    obtain ⟨x, mem, film⟩ := (isBought_iff s r.film).mp bought
    have ne : x ≠ p := fun e => kept r row access (film.symm.trans (congrArg _ e))
    exact (isBought_iff _ _).mpr ⟨x, mem_eraseP_of_ne live mem ne, film⟩

theorem endAll_slotsKept (reason : EndReason) (s : State) : SlotsKept s (endAll reason s) :=
  SlotsKept.foldl _ (fun s n => endPurchase_slotsKept n reason s) _ s

/-- R79: a change of the purchase of a number that keeps its film. -/
theorem changePurchase_slotOk {s t : State} {n : Nat} {f : Purchase → Purchase} (svc : t.svc = s.svc)
    (guest' : guest t = guest s) (changed : t.ret.purchases = changePurchase n f s.ret.purchases)
    (keeps : ∀ p, (f p).film = p.film) : slotOk t = slotOk s :=
  slotOk_eq_of_films svc guest' (by rw [changed, changePurchase_map n f (·.film) keeps])

theorem beginRepetition_slotsKept (n position k : Nat) (s : State) :
    SlotsKept s (beginRepetition n position k s) := by
  rcases beginRepetition_cases n position k s with
    ⟨_, e⟩ | ⟨_, _, ⟨_, e⟩ | ⟨_, e⟩ | ⟨_, e⟩ | ⟨_, e⟩⟩ <;> rw [e]
  · exact .refl s
  · exact .of_same rfl rfl (changePurchase_slotOk rfl rfl rfl fun _ => rfl)
  · exact endPurchase_slotsKept ..
  · exact endPurchase_slotsKept ..
  · exact .of_same rfl rfl (changePurchase_slotOk rfl rfl rfl fun _ => rfl)

theorem meterPurchase_slotsKept (n : Nat) (viewed : Bool) (s : State) :
    SlotsKept s (meterPurchase n viewed s) := by
  rcases meterPurchase_cases n viewed s with e | ⟨_, e⟩ | ⟨_, _, e⟩ | ⟨_, e⟩ <;> rw [e]
  · exact .refl s
  · exact .of_same rfl rfl (changePurchase_slotOk rfl rfl rfl fun _ => rfl)
  · exact beginRepetition_slotsKept ..
  · exact endPurchase_slotsKept ..

theorem evalBillingDay_slotsKept (s : State) : SlotsKept s (evalBillingDay s) := by
  obtain ⟨_, _, e, _⟩ := evalBillingDay_ret s
  rw [e]
  exact .of_same rfl rfl rfl

theorem meterAll_slotsKept (s0 s : State) : SlotsKept s (meterAll s0 s) :=
  SlotsKept.foldl (fun (s : State) (p : Purchase) => meterPurchase p.number (isViewed s0 p.film) s)
    (fun s p => meterPurchase_slotsKept p.number _ s) s0.ret.purchases s

theorem meterSecond_slotsKept (s : State) : SlotsKept s (meterSecond s) := by
  have cleared (u : State) : SlotsKept u (clearViewed u) := .of_same rfl rfl rfl
  unfold meterSecond
  split
  · refine (evalBillingDay_slotsKept s).trans ?_
    dsimp only
    split
    · exact cleared _
    · exact (meterAll_slotsKept _ _).trans (cleared _)
  · exact .refl s

theorem payMeter_slotsKept (s : State) : SlotsKept s (payMeter s) :=
  SlotsKept.trans (t := paid .meter s) (.of_same rfl rfl rfl) (meterSecond_slotsKept _)

/-- R79: a purchase more takes no slot's right away. -/
theorem acceptPurchase_slotsKept (r : ServiceRow) (s : State) : SlotsKept s (acceptPurchase r s) := by
  have added : SlotsKept s (addPurchase (newPurchase s r) s) := by
    refine .of_origin rfl fun k mem =>
      ⟨k, mem, slotOk_mono (s := s) (t := addPurchase (newPurchase s r) s) rfl (fun _ h => h) fun f bought => ?_⟩
    obtain ⟨p, mem, film⟩ := (isBought_iff s f).mp bought
    exact (isBought_iff _ f).mpr ⟨p, List.mem_append_left _ mem, film⟩
  unfold acceptPurchase
  dsimp only
  split
  · exact added.trans (beginRepetition_slotsKept ..)
  · exact added

theorem buyFilm_slotsKept (label : Nat) (s : State) : SlotsKept s (buyFilm label s).1 := by
  unfold buyFilm
  split
  · exact .refl s
  · split
    · exact .refl s
    · exact acceptPurchase_slotsKept _ s

theorem buy_slotsKept (label : Nat) (s : State) : SlotsKept s (buy label s).1 := by
  unfold buy
  repeat' split
  all_goals first
    | exact .refl s
    | exact (evalBillingDay_slotsKept s).trans (buyFilm_slotsKept label _)

theorem voidFilm_slotsKept (film : Nat) (s : State) : SlotsKept s (voidFilm film s) := by
  unfold voidFilm
  split
  · exact endPurchase_slotsKept ..
  · exact .refl s

/-! ### The Table Loader -/

/-- R79: the active copy is all that the test reads of the Service Table machine. -/
theorem withMachine_slotsKept {tb : Table} {m : TableMachine} {s : State} (active : m.active = (machine s tb).active) :
    SlotsKept s (withMachine tb m s) := by
  cases tb with
  | tariff => exact .of_same rfl rfl rfl
  | service =>
    refine .of_same rfl rfl ?_
    have row (label : Nat) : serviceRow (withMachine .service m s) label = serviceRow s label := by
      show (if label = 0 then none else (m.active.map rowOf).find? _) = _
      rw [active]
      rfl
    funext k
    simp only [slotOk, row]
    rfl

/-- R83: a commit of the Service Table leaves the slots that satisfy the test under the new rows. -/
theorem commit_slotsKept (tb : Table) (s : State) : SlotsKept s (commit tb s) := by
  rcases commit_cases tb s with ⟨_, e⟩ | ⟨_, _, made, _, hm, ⟨rfl, e⟩ | ⟨rfl, e⟩⟩ <;> rw [e]
  · exact .refl s
  · rw [hm]
    exact .of_same rfl rfl rfl
  · refine ⟨?_, ?_, fun _ k mem => ?_, fun _ empty k mem => ?_⟩
    · rw [hm]; rfl
    · rw [hm]; rfl
    · exact ((some_mem_flushSlots (slotOk made) made.keys.slots k).mp mem).2
    · have mem := ((some_mem_flushSlots (slotOk made) made.keys.slots k).mp mem).1
      rw [hm] at mem
      exact empty k mem

theorem decideCommit_slotsKept (later : Bool) (tb : Table) (s : State) :
    SlotsKept s (decideCommit later tb s) := by
  unfold decideCommit
  split
  · exact withMachine_slotsKept rfl
  · exact commit_slotsKept ..

theorem commitIfDue_slotsKept (tb : Table) (s : State) : SlotsKept s (commitIfDue tb s) := by
  unfold commitIfDue
  split
  · exact commit_slotsKept tb s
  · exact .refl s

theorem commitsDue_slotsKept (s : State) : SlotsKept s (commitsDue s) :=
  (commitIfDue_slotsKept .service s).trans (commitIfDue_slotsKept .tariff _)

theorem activateIfReached_slotsKept (tb : Table) (s : State) : SlotsKept s (activateIfReached tb s) := by
  unfold activateIfReached
  split
  · exact commit_slotsKept tb s
  · exact .refl s

theorem loaderEvent_slotsKept (s : State) : SlotsKept s (loaderEvent s) :=
  (activateIfReached_slotsKept .service s).trans (activateIfReached_slotsKept .tariff _)

theorem usedChoice_slotsKept (s : State) : SlotsKept s (usedChoice s) := .of_same rfl rfl rfl

theorem execCheckCompletion_slotsKept (tb : Table) {s u : State} (h : execCheckCompletion tb s = .next u) :
    SlotsKept s u := by
  have recorded (sig : Register31) : (recordSignature sig (machine s tb)).active = (machine s tb).active := rfl
  have decided (later : Bool) (sig : Register31) :
      SlotsKept s (decideCommit later tb (usedChoice (withMachine tb (recordSignature sig (machine s tb)) s))) :=
    ((withMachine_slotsKept (recorded sig)).trans (usedChoice_slotsKept _)).trans (decideCommit_slotsKept ..)
  have rejected (m : TableMachine) (active : m.active = (machine s tb).active) : SlotsKept s (rejectStage tb m s) :=
    (withMachine_slotsKept (m := { m with stage := .idle }) active).trans (.of_same rfl rfl rfl)
  cases h
  dsimp only
  repeat' split
  all_goals first
    | exact .refl s
    | exact decided ..
    | exact withMachine_slotsKept rfl
    | exact rejected _ rfl

theorem openTable_active (tb : Table) (g : Nat) (m : TableMachine) : (openTable tb g m).active = m.active := by
  unfold openTable
  split <;> rfl

theorem rowsInto_active (x : RowsOperands) (m : TableMachine) : (rowsInto x m).active = m.active := by
  unfold rowsInto
  repeat' split
  all_goals rfl

theorem closeTable_active (x : CloseOperands) (m : TableMachine) : (closeTable x m).active = m.active := by
  unfold closeTable
  repeat' split
  all_goals rfl

/-! ### The Tenancy Unit -/

/-- R79, R106: where there was no guest no package is lost at a completion. -/
theorem completeTenancy_slotsKept {s : State} (h : s.ret.tenancy ≠ .occupied) :
    SlotsKept s (completeTenancy s) := by
  refine .of_origin rfl fun k mem =>
      ⟨k, mem, slotOk_mono (s := s) (t := completeTenancy s) rfl (fun n held => ?_) fun _ bought => bought⟩
  exact absurd ((holdsPackage_iff s n).mp held).1 h

theorem testCompletion_slotsKept (s : State) : SlotsKept s (testCompletion s) := by
  rcases testCompletion_cases s with ⟨_, closing, _, e⟩ | e <;> rw [e]
  · exact completeTenancy_slotsKept (by rw [closing]; decide)
  · exact .refl s

theorem tenancySecond_slotsKept (s : State) : SlotsKept s (tenancySecond s) := by
  unfold tenancySecond
  split
  · rename_i reached
    obtain ⟨_, closing, _⟩ := (timeoutReached_iff s).mp reached
    exact completeTenancy_slotsKept (by rw [closing]; decide)
  · exact .refl s

theorem startUpCompletion_slotsKept (s : State) : SlotsKept s (startUpCompletion s) := by
  have evaluated (u : State) : SlotsKept u (evalMembership u) := .of_same rfl rfl rfl
  unfold startUpCompletion
  split
  · rename_i closing
    exact completeTenancy_slotsKept (by rw [closing]; decide)
  · exact (endAll_slotsKept _ s).trans (evaluated _)
  · exact evaluated s

/-- R79, R81: the flush leaves the packages that the new record holds. -/
theorem replaceActive_slotsKept (old new : RoomRecord) (s : State) : SlotsKept s (replaceActive old new s) := by
  obtain ⟨done, all, written, -, -⟩ := replaceActive_taken old new s
  have flushed : .keys ∈ done := all.mem_iff.mpr (by decide)
  refine .of_flush (written.frame.power) written.slots fun k kept test => ?_
  obtain ⟨r, row, test⟩ := (slotOk_iff s k).mp test
  have row : serviceRow (replaceActive old new s) k.label = some r := (written.frame.serviceRow _).trans row
  refine (slotOk_iff _ k).mpr ⟨r, row, ?_⟩
  refine test.imp_right (.imp (fun ⟨access, house, _⟩ => ⟨access, house, ?_⟩)
    fun ⟨access, house, bought⟩ => ⟨access, house, ?_⟩)
  · rw [holdsPackage, written.guest]
    exact (keptByRecord_iff _ k).mp (kept flushed) r ((written.frame.serviceRow _).symm.trans row) access
  · rw [isBought, written.ret]
    exact bought

theorem takeActive_slotsKept (r : RoomRecord) (s : State) : SlotsKept s (takeActive r s) := by
  unfold takeActive
  split
  · split
    · exact replaceActive_slotsKept ..
    · exact .of_same rfl rfl rfl
  · exact .of_same rfl rfl rfl

/-- R79, R80: the house slots that are left are of OPEN rows, which no stay gives or takes. -/
theorem beginClosing_slotsKept (s : State) : SlotsKept s (beginClosing s) := by
  rw [beginClosing_eq]
  refine SlotsKept.trans ?_ (testCompletion_slotsKept _)
  have spec := stayClosed_spec s
  generalize stayClosed s = v at spec
  have power : v.power = s.power := by rw [spec.frame]; rfl
  have rows (label : Nat) : serviceRow v label = serviceRow s label := by rw [spec.frame]; rfl
  refine .of_flush power spec.slots fun k ⟨house, _⟩ test => ?_
  obtain ⟨r, row, test⟩ := (slotOk_iff s k).mp test
  refine (slotOk_iff v k).mpr ⟨r, (rows _).trans row, ?_⟩
  simpa [house] using test

/-! ### The consumers of the events -/

theorem takeSecond_slotsKept (c : Consumer) (s : State) : SlotsKept s (takeSecond c s) := by
  cases c with
  | lock => exact (lockEvent_byLock s).slotsKept
  | meter => exact meterSecond_slotsKept s
  | loader => exact loaderEvent_slotsKept s
  | tenancy => exact tenancySecond_slotsKept s
  | keys => exact .refl s
  | gate => exact .refl s

theorem deliverSecond_slotsKept (later : List Consumer) (c : Consumer) (s : State) :
    SlotsKept s (deliverSecond later c s) := by
  unfold deliverSecond
  split
  · exact .of_same rfl rfl rfl
  · exact takeSecond_slotsKept c s

theorem settle_slotsKept (s : State) : SlotsKept s (settle s) :=
  SlotsKept.trans (t := { s with model := { s.model with due := [] } }) (.of_same rfl rfl rfl)
    (SlotsKept.foldl _ (fun s c => takeSecond_slotsKept c s) _ _)

theorem secondEvent_slotsKept (s : State) : SlotsKept s (secondEvent s) := by
  unfold secondEvent
  refine (settle_slotsKept s).trans
    (SlotsKept.trans ?_ (SlotsKept.foldl _ (fun s c => deliverSecond_slotsKept _ c s) _ _))
  exact .of_same rfl rfl rfl

theorem takeStep_slotsKept (c : Consumer) (s : State) : SlotsKept s (takeStep c s) := by
  cases c with
  | lock => exact (windowEvent_byLock s).slotsKept
  | meter => exact evalBillingDay_slotsKept s
  | loader => exact loaderEvent_slotsKept s
  | tenancy => exact .refl s
  | keys => exact .refl s
  | gate => exact .refl s

theorem adoptTime_slotsKept (t : BuildingTime) (s : State) : SlotsKept s (adoptTime t s) := by
  unfold adoptTime
  split
  · exact .refl s
  · refine (settle_slotsKept s).trans
      (SlotsKept.trans ?_ (SlotsKept.foldl _ (fun s c => takeStep_slotsKept c s) _ _))
    exact .of_same rfl rfl rfl

end Sys2Proof.Machine
end

section
/-!
The key units, the Classifier and the parsers, the ports, the starts, and then every command (O57).
-/
namespace Sys2Proof.Machine

/-! ### Key units (R75 to R77) -/

/-- R76: what a placement loads: a slot of the entry's label, with the house flag of the entry or of the slot that
carried the label. -/
theorem placeEntry_loads (e : KeyEntry) (s : State) :
    (∃ i k, placeEntry e s = loadSlot i k s ∧ k.label = e.label
      ∧ (k.house = e.house ∨ ∃ k₀, some k₀ ∈ s.keys.slots ∧ k₀.label = k.label ∧ k₀.house = k.house))
    ∨ placeEntry e s = latch .keyTableFull s ∨ placeEntry e s = s := by
  unfold placeEntry
  dsimp only
  split
  · rename_i i found
    split
    · rename_i k held
      obtain ⟨inside, carried, -⟩ := List.findIdx?_eq_some_iff_getElem.mp found
      have at_i : s.keys.slots[i] = some k := by simpa [List.getD_eq_getElem?_getD, inside] using held
      obtain ⟨_, same, label⟩ := (carries_iff ..).mp carried
      cases at_i.symm.trans same
      exact .inl ⟨i, _, rfl, label, .inr ⟨k, at_i ▸ List.getElem_mem inside, rfl, rfl⟩⟩
    · exact .inr (.inr rfl)
  · split
    · exact .inl ⟨_, _, rfl, rfl, .inl rfl⟩
    · split
      · exact .inl ⟨_, _, rfl, rfl, .inl rfl⟩
      · exact .inr (.inl rfl)

/-- R75, R79: an accepted entry gives its label the right that the slot test asks for. -/
theorem slotOk_of_accepts {s : State} {e : KeyEntry} {k : KeySlot} (h : accepts s e = true)
    (label : k.label = e.label) (house : k.house = e.house) : slotOk s k = true := by
  cases row : serviceRow s e.label with
  | none => exact absurd h (accepts_of_no_row row)
  | some r =>
    refine (slotOk_iff s k).mpr ⟨r, label ▸ row, ?_⟩
    rw [house]
    exact ((accepts_of_row row).mp h).imp_right (.imp_left fun ⟨access, clear, _, held⟩ => ⟨access, clear, held⟩)

theorem takeEntry_entitled {s : State} (hs : Entitled s) (e : KeyEntry) : Entitled (takeEntry s e) := by
  by_cases accepted : accepts s e = true
  · rw [takeEntry_of_accepted accepted]
    rcases placeEntry_loads e s with ⟨i, k, placed, label, house⟩ | placed | placed <;> rw [placed]
    · intro k' mem
      rcases List.mem_or_eq_of_mem_set mem with old | new
      · exact hs k' old
      · cases new
        rcases house with house | ⟨k₀, mem₀, label₀, house₀⟩
        · exact slotOk_of_accepts accepted label house
        · exact (slotOk_congr label₀ house₀).symm.trans (hs k₀ mem₀)
    · exact hs
    · exact hs
  · rw [takeEntry_of_refused accepted]
    exact hs

theorem takeEntry_power (s : State) (e : KeyEntry) : (takeEntry s e).power = s.power := by
  by_cases accepted : accepts s e = true
  · rw [takeEntry_of_accepted accepted]
    rcases placeEntry_cases e s with ⟨i, k, placed⟩ | placed | placed <;> rw [placed] <;> rfl
  · rw [takeEntry_of_refused accepted]

/-- R71: key units are taken outside STARTING. -/
theorem takeEntries_slotsKept (entries : List KeyEntry) {s : State} (run : s.power.phase = .running) :
    SlotsKept s (entries.foldl takeEntry s) := by
  induction entries generalizing s with
  | nil => exact .refl s
  | cons e rest ih =>
    have power := takeEntry_power s e
    have taken : SlotsKept s (takeEntry s e) :=
      ⟨congrArg _ power, congrArg _ power, fun hs => takeEntry_entitled hs e, absurd run⟩
    exact taken.trans (ih ((congrArg _ power).trans run))

/-! ### The media path (R78, R84) -/

/-- R78: a mark is no part of what the slot test reads. -/
theorem markUsed_origin {label : Nat} {slots : List (Option KeySlot)} {k : KeySlot}
    (mem : some k ∈ markUsed label slots) :
    ∃ k₀, some k₀ ∈ slots ∧ k.label = k₀.label ∧ k.house = k₀.house := by
  obtain ⟨slot, present, marked⟩ := List.mem_map.mp mem
  obtain ⟨k₀, rfl, rfl⟩ := Option.map_eq_some_iff.mp marked
  refine ⟨k₀, present, ?_⟩
  split <;> exact ⟨rfl, rfl⟩

theorem presentUnit_slotsKept (u : CarriageUnit) (stamp : BitVec 24) (s : State) :
    SlotsKept s (presentUnit u stamp s) := by
  refine .of_origin rfl fun k mem => ?_
  change some k ∈ (s.keys.afterUnit u).slots at mem
  rw [afterUnit_eq] at mem
  split at mem
  · obtain ⟨k₀, mem₀, label, house⟩ := markUsed_origin mem
    exact ⟨k₀, mem₀, fun test => (slotOk_congr label house).trans test⟩
  · exact ⟨k, mem, id⟩

theorem classifyMedia_slotsKept (u : CarriageUnit) (stamp : BitVec 24) (s : State) :
    SlotsKept s (classifyMedia u stamp s) := by
  have handedOn : SlotsKept s (presentUnit u stamp (checkSequence u s)) :=
    SlotsKept.trans (t := checkSequence u s) (.of_same rfl rfl rfl) (presentUnit_slotsKept u stamp _)
  unfold classifyMedia
  dsimp only
  repeat' split
  all_goals first
    | exact .refl s
    | exact handedOn

/-! ### The Classifier and the parsers -/

theorem tookFeed_slotsKept (s : State) : SlotsKept s (tookFeed s) := .of_same rfl rfl rfl

theorem offerFeed_slotsKept (u : CarriageUnit) (s : State) : SlotsKept s (offerFeed u s) := by
  unfold offerFeed
  split <;> exact .of_same rfl rfl rfl

/-- R12: a unit is taken outside STARTING. -/
theorem onFeed_slotsKept (row : FeedRow) {act : CarriageUnit → State → State}
    (hact : ∀ u s, s.power.phase = .running → SlotsKept s (act u s)) (s : State) :
    SlotsKept s (onFeed row act s) := by
  by_cases taken : ∃ q, FeedTakes s row q
  · obtain ⟨q, taken⟩ := taken
    rw [onFeed_of_taken taken]
    have run := ((running_iff _).mp (running_afterFeed taken)).2.2
    exact ((commitsDue_slotsKept s).trans (tookFeed_slotsKept _)).trans (hact _ _ run)
  · rw [onFeed_of_not_taken fun q h => taken ⟨q, h⟩]
    exact .refl s

theorem onDirective_slotsKept {α : Type} (row : FeedRow) (read : List Byte → Option α)
    {act : α → State → State} (hact : ∀ x s, SlotsKept s (act x s)) (s : State) :
    SlotsKept s (onDirective row read act s) := by
  refine onFeed_slotsKept row (fun u s _ => ?_) s
  split
  · exact hact ..
  · exact .of_same rfl rfl rfl

theorem onLocal_slotsKept (row : LocalRow) {act : CarriageUnit → State → State}
    (hact : ∀ u s, SlotsKept s (act u s)) (s : State) : SlotsKept s (onLocal row act s) := by
  have took (u : State) : SlotsKept u (tookLocal u) := .of_same rfl rfl rfl
  unfold onLocal
  split
  · split
    · exact ((commitsDue_slotsKept s).trans (took _)).trans (hact ..)
    · exact .refl s
  · exact .refl s

theorem pushResult_slotsKept (r : Result) (s : State) : SlotsKept s (pushResult r s) := .of_same rfl rfl rfl

theorem onCommand_slotsKept {α : Type} (kind : CommandKind) (read : List Byte → Option α)
    {act : α → State → Reply} (hact : ∀ x s, SlotsKept s (act x s).1) (s : State) :
    SlotsKept s (onCommand kind read act s) := by
  refine onLocal_slotsKept _ (fun u s => ?_) s
  split
  · exact (hact ..).trans (pushResult_slotsKept ..)
  · exact pushResult_slotsKept ..

theorem receive_slotsKept (serial : Nat) (s : State) : SlotsKept s (receive serial s) := by
  unfold receive
  split
  · exact SlotsKept.trans (t := removeThrough serial s) (.of_same rfl rfl rfl) (testCompletion_slotsKept _)
  · exact .refl s

theorem selectLabel_slotsKept (x : OutputId × Nat) (s : State) : SlotsKept s (selectLabel x s).1 := by
  unfold selectLabel
  repeat' split
  all_goals exact .of_same rfl rfl rfl

theorem beginEmergency_slotsKept (label : Nat) (s : State) : SlotsKept s (beginEmergency label s) := by
  unfold beginEmergency
  repeat' split
  all_goals exact .of_same rfl rfl rfl

theorem endEmergency_slotsKept (s : State) : SlotsKept s (endEmergency s) := by
  unfold endEmergency
  split <;> exact .of_same rfl rfl rfl

/-! ### The ports out -/

theorem beginResult_slotsKept (s : State) : SlotsKept s (beginResult s) := by
  unfold beginResult
  repeat' split
  all_goals exact .of_same rfl rfl rfl

theorem endResult_slotsKept (s : State) : SlotsKept s (endResult s) := by
  unfold endResult
  repeat' split
  all_goals exact .of_same rfl rfl rfl

theorem beginBilling_slotsKept (s : State) : SlotsKept s (beginBilling s) := by
  unfold beginBilling
  repeat' split
  all_goals exact .of_same rfl rfl rfl

theorem takeNotice_slotsKept (serial : Nat) (s : State) : SlotsKept s (takeNotice serial s) := by
  unfold takeNotice
  split
  · refine SlotsKept.trans ?_ (testCompletion_slotsKept _)
    exact .of_same rfl rfl rfl
  · exact .refl s

theorem endBilling_slotsKept (s : State) : SlotsKept s (endBilling s) := by
  unfold endBilling
  split
  · split
    · refine SlotsKept.trans ?_ (takeNotice_slotsKept ..)
      exact .of_same rfl rfl rfl
    · exact .refl s
  · exact .refl s
  · exact .refl s

theorem sampleReturn_slotsKept (ready : Bool) (s : State) : SlotsKept s (sampleReturn ready s) :=
  .of_same rfl rfl rfl

theorem tick_slotsKept (s : State) : SlotsKept s (tick s) := by
  unfold tick
  split <;> exact .of_same rfl rfl rfl

/-! ### The supplies, the starts and the installation read -/

/-- R87, R94: a start leaves every slot EMPTY. -/
theorem makeStart_slotsEntitled (s : State) : SlotsEntitled (makeStart s) := by
  have empty : AllEmpty (makeStart s) := fun k mem => by cases List.eq_of_mem_replicate mem
  exact (slotsEntitled_iff _).mpr fun _ => ⟨empty.entitled, fun _ => empty⟩

theorem slotsEntitled_of_unpowered {s : State} (off : s.power.mainSupply = false) : SlotsEntitled s :=
  (slotsEntitled_iff s).mpr fun on => by rw [off] at on; cases on

/-- R79: a powered part in STARTING: whatever its rows, its stay and its purchases, no slot is LOADED. -/
theorem slotsEntitled_of_starting {s t : State} (hs : SlotsEntitled s) (starting : s.power.phase ≠ .running)
    (powered : s.power.mainSupply = t.power.mainSupply) (slots : t.keys.slots = s.keys.slots) :
    SlotsEntitled t := by
  refine (slotsEntitled_iff t).mpr fun on => ?_
  have empty := ((slotsEntitled_iff s).mp hs (powered.trans on)).2 starting
  have empty : AllEmpty t := fun k mem => empty k (slots ▸ mem)
  exact ⟨empty.entitled, fun _ => empty⟩

/-- R91, R93: a level of the supplies or of the reset line is no part of what the slot test reads. -/
theorem slotsEntitled_of_level {s t : State} (hs : SlotsEntitled s)
    (mainSupply : t.power.mainSupply = s.power.mainSupply) (phase : t.power.phase = s.power.phase)
    (slots : t.keys.slots = s.keys.slots) (test : slotOk t = slotOk s) : SlotsEntitled t :=
  SlotsKept.slotsEntitled
    ⟨mainSupply, phase, fun h k mem => test ▸ h k (slots ▸ mem), fun _ h k mem => h k (slots ▸ mem)⟩ hs

theorem execStandbySupplyLoss_slotsEntitled {s t : State} (hs : SlotsEntitled s)
    (h : execStandbySupplyLoss s = .next t) : SlotsEntitled t := by
  cases h
  dsimp only
  split
  · rename_i lost
    simp only [Bool.and_eq_true, Bool.not_eq_true'] at lost
    exact slotsEntitled_of_unpowered lost.2
  · exact slotsEntitled_of_level hs rfl rfl rfl rfl

theorem execMainSupplyLoss_slotsEntitled {s t : State} (h : execMainSupplyLoss s = .next t) :
    SlotsEntitled t := by
  cases h
  dsimp only
  split <;> exact slotsEntitled_of_unpowered rfl

/-- R96: the start-up completion finds every slot EMPTY. -/
theorem execInstallationReadEnd_slotsEntitled (memory : List Byte) {s t : State} (hs : SlotsEntitled s)
    (h : execInstallationReadEnd memory s = .next t) : SlotsEntitled t := by
  cases h
  split
  · rename_i reading
    have phase : s.power.phase = .reading := by simpa using (Bool.and_eq_true_iff.mp reading).2
    have ended : SlotsEntitled (readEnded memory s) :=
      slotsEntitled_of_starting hs (by rw [phase]; decide) rfl rfl
    have shed : SlotsKept (readEnded memory s) (evalShed (readEnded memory s)) := .of_same rfl rfl rfl
    exact (shed.trans (startUpCompletion_slotsKept _)).slotsEntitled ended
  · exact hs

/-! ### Every command, every step -/

theorem exec_slotsEntitled (c : Instr) {s t : State} (hs : SlotsEntitled s) (h : exec c s = .next t) :
    SlotsEntitled t := by
  cases c with
  | powerUp =>
    cases h
    dsimp only
    split
    · exact hs
    · exact makeStart_slotsEntitled _
  | resetHeldLow => cases h; exact slotsEntitled_of_level hs rfl rfl rfl rfl
  | resetRelease =>
    cases h
    dsimp only
    split
    · exact makeStart_slotsEntitled _
    · exact slotsEntitled_of_level hs rfl rfl rfl rfl
  | standbySupplyLoss => exact execStandbySupplyLoss_slotsEntitled hs h
  | mainSupplyLoss => exact execMainSupplyLoss_slotsEntitled h
  | coldStartWritesEnd =>
    cases h
    split
    · rename_i writes
      have phase : s.power.phase = .coldWrites := by simpa using (Bool.and_eq_true_iff.mp writes).2
      exact slotsEntitled_of_starting hs (by rw [phase]; decide) rfl rfl
    · exact hs
  | installationReadEnd memory => exact execInstallationReadEnd_slotsEntitled memory hs h
  | feedUnitArrival bytes =>
    have unitless (i : FeedInterface) : SlotsKept s { s with merge := { s.merge with feedIf := i } } :=
      .of_same rfl rfl rfl
    cases h
    split
    · split
      · exact ((unitless _).trans (offerFeed_slotsKept ..)).slotsEntitled hs
      · exact (unitless _).slotsEntitled hs
    · exact hs
  | feedInterfaceDiscard why =>
    cases h
    split
    · exact SlotsKept.slotsEntitled (.of_same rfl rfl rfl) hs
    · exact hs
  | localInsertByte byte =>
    cases h
    split
    · exact SlotsKept.slotsEntitled (.of_same rfl rfl rfl) hs
    · exact hs
  | mediaUnit =>
    cases h
    refine SlotsKept.slotsEntitled ?_ hs
    split
    · split
      · exact ((tookFeed_slotsKept s).trans (classifyMedia_slotsKept ..)).trans (commitsDue_slotsKept _)
      · exact .refl s
    · exact .refl s
  | discardedFeedUnit => cases h; exact (onFeed_slotsKept _ (fun _ s _ => .refl s) s).slotsEntitled hs
  | directiveIgnored => cases h; exact (onFeed_slotsKept _ (fun _ s _ => .refl s) s).slotsEntitled hs
  | timeMark =>
    cases h
    refine (onFeed_slotsKept _ (fun u s _ => ?_) s).slotsEntitled hs
    split
    · exact adoptTime_slotsKept ..
    · exact .of_same rfl rfl rfl
  | keyUnit =>
    cases h
    exact (onFeed_slotsKept _ (fun u s run => takeEntries_slotsKept _ run) s).slotsEntitled hs
  | tableOpen =>
    cases h
    exact (onDirective_slotsKept _ _ (fun _ _ => withMachine_slotsKept (openTable_active ..)) s).slotsEntitled hs
  | tableRows =>
    cases h
    exact (onDirective_slotsKept _ _ (fun _ _ => withMachine_slotsKept (rowsInto_active ..)) s).slotsEntitled hs
  | tableClose =>
    cases h
    exact (onDirective_slotsKept _ _ (fun _ _ => withMachine_slotsKept (closeTable_active ..)) s).slotsEntitled hs
  | checkCompletion table => exact (execCheckCompletion_slotsKept table h).slotsEntitled hs
  | tableActivation table =>
    cases h
    split
    · exact ((usedChoice_slotsKept s).trans (decideCommit_slotsKept ..)).slotsEntitled hs
    · exact hs
  | tableCommit table =>
    cases h
    split
    · exact (commitIfDue_slotsKept ..).slotsEntitled hs
    · exact hs
  | roomRecord =>
    cases h
    refine (onDirective_slotsKept _ _ (fun x s => ?_) s).slotsEntitled hs
    split
    · exact takeActive_slotsKept ..
    · exact .of_same rfl rfl rfl
  | tenancyChange =>
    cases h
    refine (onDirective_slotsKept _ _ (fun x s => ?_) s).slotsEntitled hs
    split
    · exact .refl s
    · exact beginClosing_slotsKept s
  | completionTimeout =>
    cases h
    split
    · rename_i reached
      obtain ⟨_, closing, _⟩ := (timeoutReached_iff s).mp reached
      have completed := completeTenancy_slotsKept (s := paid .tenancy s) (by rw [paid_ret, closing]; decide)
      exact (SlotsKept.trans (.of_same rfl rfl rfl) completed).slotsEntitled hs
    · exact hs
  | lockReset =>
    cases h
    exact (onDirective_slotsKept _ _
      (fun _ s => (closeLock_slotsKept s).trans (setFailures_slotsKept ..)) s).slotsEntitled hs
  | purchaseVoid => cases h; exact (onDirective_slotsKept _ _ voidFilm_slotsKept s).slotsEntitled hs
  | billingReceipt => cases h; exact (onDirective_slotsKept _ _ receive_slotsKept s).slotsEntitled hs
  | billingPoll =>
    cases h
    exact (onDirective_slotsKept (act := poll) _ _ (fun _ _ => .of_same rfl rfl rfl) s).slotsEntitled hs
  | emergencyOn => cases h; exact (onDirective_slotsKept _ _ beginEmergency_slotsKept s).slotsEntitled hs
  | emergencyOff =>
    cases h
    exact (onDirective_slotsKept _ _ (fun _ s => endEmergency_slotsKept s) s).slotsEntitled hs
  | refusedUnit => cases h; exact (onLocal_slotsKept _ (fun _ _ => pushResult_slotsKept ..) s).slotsEntitled hs
  | unknownCommand => cases h; exact (onLocal_slotsKept _ (fun _ _ => pushResult_slotsKept ..) s).slotsEntitled hs
  | select => cases h; exact (onCommand_slotsKept _ _ selectLabel_slotsKept s).slotsEntitled hs
  | purchase => cases h; exact (onCommand_slotsKept _ _ buy_slotsKept s).slotsEntitled hs
  | pinEntry => cases h; exact (onCommand_slotsKept _ _ enterPin_slotsKept s).slotsEntitled hs
  | relock => cases h; exact (onCommand_slotsKept _ _ (fun _ s => relockNow_slotsKept s) s).slotsEntitled hs
  | query => cases h; exact (onCommand_slotsKept _ _ (fun _ s => .refl s) s).slotsEntitled hs
  | alertSetup =>
    cases h
    exact (onCommand_slotsKept _ _ (fun _ _ => .of_same rfl rfl rfl) s).slotsEntitled hs
  | alertClear =>
    cases h
    exact (onCommand_slotsKept _ _ (fun _ _ => .of_same rfl rfl rfl) s).slotsEntitled hs
  | secondEvent =>
    cases h
    split
    · exact (secondEvent_slotsKept s).slotsEntitled hs
    · exact hs
  | sessionExpiry =>
    cases h
    split
    · exact SlotsKept.slotsEntitled (.trans (.of_same rfl rfl rfl) (lockEvent_byLock (paid .lock s)).slotsKept) hs
    · exact hs
  | lockoutExpiry =>
    cases h
    split
    · exact SlotsKept.slotsEntitled (.trans (.of_same rfl rfl rfl) (lockEvent_byLock (paid .lock s)).slotsKept) hs
    · exact hs
  | graceUsedUp =>
    cases h
    split
    · exact (payMeter_slotsKept s).slotsEntitled hs
    · exact hs
  | graceLapse =>
    cases h
    split
    · exact (payMeter_slotsKept s).slotsEntitled hs
    · exact hs
  | stepRemainingEnd =>
    cases h
    split
    · exact (payMeter_slotsKept s).slotsEntitled hs
    · exact hs
  | resultUnitBegin ready =>
    cases h
    exact ((sampleReturn_slotsKept ready s).trans (beginResult_slotsKept _)).slotsEntitled hs
  | resultUnitEnd ready =>
    cases h
    exact ((sampleReturn_slotsKept ready s).trans (endResult_slotsKept _)).slotsEntitled hs
  | billingUnitBegin ready =>
    cases h
    exact ((sampleReturn_slotsKept ready s).trans (beginBilling_slotsKept _)).slotsEntitled hs
  | billingUnitEnd ready =>
    cases h
    exact ((sampleReturn_slotsKept ready s).trans (endBilling_slotsKept _)).slotsEntitled hs
  | outputUnitBegin o ready => cases h; exact SlotsKept.slotsEntitled (.of_same rfl rfl rfl) hs
  | outputUnitEnd o ready => cases h; exact SlotsKept.slotsEntitled (.of_same rfl rfl rfl) hs

theorem step_slotsEntitled {s t : State} (hs : SlotsEntitled s) (h : step s = .next t) : SlotsEntitled t := by
  unfold step at h
  split at h
  · cases h
    exact (tick_slotsKept s).slotsEntitled hs
  · rename_i c rest _
    have queued : SlotsKept s { s with pending := rest } := .of_same rfl rfl rfl
    exact exec_slotsEntitled c (queued.slotsEntitled hs) h

end Sys2Proof.Machine

/-- Settles O57: a slot is loaded with a right, and whatever takes a right away flushes the slots that lose it. -/
theorem stepKeepsSlotsEntitled : Obligations.StepKeepsSlotsEntitled :=
  fun _ _ hs h => Sys2Proof.Machine.step_slotsEntitled hs h
end

section
/-!
The supplies, the reset line and the starts (O4, O5, O6).
-/
namespace Sys2Proof.Machine

/-! ### The commands of a part that takes no event (R91, R93) -/

theorem not_live_of_heldLow {s : State} (h : s.power.resetLow = true) : live s = false := by
  simp [live, h]

theorem not_live_of_unpowered {s : State} (h : s.power.mainSupply = false) : live s = false := by
  simp [live, h]

theorem not_running_of_not_live {s : State} (h : live s = false) : running s = false := by
  simp [running, h]

theorem onFeed_of_not_running {s : State} (h : running s = false) (row : FeedRow)
    (act : CarriageUnit → State → State) : onFeed row act s = s := by
  simp only [onFeed, (heads_of_not_running h).1]

theorem onLocal_of_not_running {s : State} (h : running s = false) (row : LocalRow)
    (act : CarriageUnit → State → State) : onLocal row act s = s := by
  simp only [onLocal, (heads_of_not_running h).2]

theorem meterOwes_of_not_running {s : State} (h : running s = false) (ends : State → Purchase → Bool) :
    meterOwes ends s = false := by
  simp [meterOwes, h]

theorem timeoutReached_of_not_running {s : State} (h : running s = false) : timeoutReached s = false := by
  simp [timeoutReached, h]

theorem insertReady_of_not_running {s : State} (h : running s = false) : insertReady s = false := by
  simp [insertReady, h]

theorem portFree_of_not_live {s : State} (h : live s = false) : portFree s = false := by
  simp [portFree, h]

theorem endResult_of_not_live {s : State} (h : live s = false) : endResult s = s := by
  unfold endResult
  split
  · exact if_neg (by simp [h])
  · rfl
  · rfl

theorem endBilling_of_not_live {s : State} (h : live s = false) : endBilling s = s := by
  unfold endBilling
  split
  · exact if_neg (by simp [h])
  · rfl
  · rfl

/-- R166: an Output Stage of a part that is not live takes only the level of its ready line. -/
theorem Output.beginUnit_of_not_live {isLive : Bool} (h : isLive = false) (withTrailer ready : Bool)
    (out : Output) : out.beginUnit isLive withTrailer ready = { out with ready := ready } := by
  subst h
  unfold Output.beginUnit
  split
  · rfl
  · rfl

theorem Output.endUnit_of_not_live {isLive : Bool} (h : isLive = false) (ready : Bool) (out : Output) :
    out.endUnit isLive ready = { out with ready := ready } := by
  subst h
  rfl

/-- The command leaves the whole part as it stands but for the levels of the ready lines (log 7). -/
def OnlySamples (s : State) (outcome : Host.Outcome State Fault Refusal) : Prop :=
  ∃ ret a b, outcome = .next
    { s with
      port := { s.port with ready := ret }
      outA := { s.outA with ready := a }
      outB := { s.outB with ready := b } }

theorem OnlySamples.of_eq {s t : State} (h : t = s) : OnlySamples s (.next t) :=
  ⟨s.port.ready, s.outA.ready, s.outB.ready, congrArg _ h⟩

/-- Where the condition of a command's effect does not hold, nothing happens (log 1). -/
theorem OnlySamples.of_idle {s t : State} {b : Bool} (h : b = false) :
    OnlySamples s (.next (if b then t else s)) :=
  .of_eq (if_neg (by simp [h]))

theorem OnlySamples.of_return {s t : State} (ready : Bool) (h : t = sampleReturn ready s) :
    OnlySamples s (.next t) :=
  ⟨ready, s.outA.ready, s.outB.ready, congrArg _ h⟩

theorem OnlySamples.of_output {s : State} (o : Sys2Proof.OutputId) (ready : Bool) {out : Output}
    (h : out = { output s o with ready := ready }) : OnlySamples s (.next (withOutput o out s)) := by
  subst h
  cases o with
  | a => exact ⟨s.port.ready, ready, s.outB.ready, rfl⟩
  | b => exact ⟨s.port.ready, s.outA.ready, ready, rfl⟩

/-- R91, R93: a part that is held low or unpowered takes no event but those of its supplies and its reset
line. -/
theorem exec_onlySamples (c : Instr) {s : State} (off : live s = false) (up : c ≠ .powerUp)
    (mainLoss : c ≠ .mainSupplyLoss) (standbyLoss : c ≠ .standbySupplyLoss) (low : c ≠ .resetHeldLow)
    (release : c ≠ .resetRelease) : OnlySamples s (exec c s) := by
  have idle : running s = false := not_running_of_not_live off
  have starting (phase : Phase) : (live s && s.power.phase == phase) = false := by rw [off, Bool.false_and]
  have feed (row : FeedRow) (act : CarriageUnit → State → State) : OnlySamples s (.next (onFeed row act s)) :=
    .of_eq (onFeed_of_not_running idle row act)
  have insert (row : LocalRow) (act : CarriageUnit → State → State) :
      OnlySamples s (.next (onLocal row act s)) :=
    .of_eq (onLocal_of_not_running idle row act)
  cases c with
  | powerUp => exact absurd rfl up
  | mainSupplyLoss => exact absurd rfl mainLoss
  | standbySupplyLoss => exact absurd rfl standbyLoss
  | resetHeldLow => exact absurd rfl low
  | resetRelease => exact absurd rfl release
  | coldStartWritesEnd => exact .of_idle (starting .coldWrites)
  | installationReadEnd memory => exact .of_idle (starting .reading)
  | feedUnitArrival bytes => exact .of_idle off
  | feedInterfaceDiscard why => exact .of_idle off
  | localInsertByte byte => exact .of_idle (insertReady_of_not_running idle)
  | mediaUnit =>
    rw [exec_mediaUnit_of_not_taken fun q taken => by cases (heads_of_not_running idle).1.symm.trans taken.1]
    exact .of_eq rfl
  | discardedFeedUnit => exact feed ..
  | timeMark => exact feed ..
  | keyUnit => exact feed ..
  | directiveIgnored => exact feed ..
  | tableOpen => exact feed ..
  | tableRows => exact feed ..
  | tableClose => exact feed ..
  | roomRecord => exact feed ..
  | tenancyChange => exact feed ..
  | lockReset => exact feed ..
  | purchaseVoid => exact feed ..
  | billingReceipt => exact feed ..
  | billingPoll => exact feed ..
  | emergencyOn => exact feed ..
  | emergencyOff => exact feed ..
  | refusedUnit => exact insert ..
  | unknownCommand => exact insert ..
  | select => exact insert ..
  | purchase => exact insert ..
  | pinEntry => exact insert ..
  | relock => exact insert ..
  | query => exact insert ..
  | alertSetup => exact insert ..
  | alertClear => exact insert ..
  | checkCompletion table =>
    rw [exec_checkCompletion_of_no_check (.inl off)]
    exact .of_eq rfl
  | tableActivation table => exact .of_idle (by rw [off, Bool.false_and])
  | tableCommit table => exact .of_idle off
  | completionTimeout => exact .of_idle (timeoutReached_of_not_running idle)
  | secondEvent => exact .of_idle off
  | sessionExpiry => exact .of_idle (sessionExpires_of_unreached (.inl idle))
  | lockoutExpiry => exact .of_idle (lockoutExpires_of_unreached (.inl idle))
  | graceUsedUp => exact .of_idle (meterOwes_of_not_running idle graceEnds)
  | graceLapse => exact .of_idle (meterOwes_of_not_running idle graceLapses)
  | stepRemainingEnd => exact .of_idle (meterOwes_of_not_running idle repetitionEnds)
  | resultUnitBegin ready => exact .of_return ready (beginResult_of_none (.inr (portFree_of_not_live off)))
  | resultUnitEnd ready => exact .of_return ready (endResult_of_not_live off)
  | billingUnitBegin ready =>
    exact .of_return ready (beginBilling_of_none (.inr (.inl (portFree_of_not_live off))))
  | billingUnitEnd ready => exact .of_return ready (endBilling_of_not_live off)
  | outputUnitBegin o ready => exact .of_output o ready (Output.beginUnit_of_not_live off ..)
  | outputUnitEnd o ready => exact .of_output o ready (Output.endUnit_of_not_live off ..)

/-! ### The reset line and the supplies (R91 to R93) -/

theorem exec_resetHeldLow (s : State) :
    exec .resetHeldLow s = .next { s with power := { s.power with resetLow := true } } := rfl

theorem exec_resetHeldLow_of_low {s : State} (h : s.power.resetLow = true) : exec .resetHeldLow s = .next s := by
  have stands : { s.power with resetLow := true } = s.power := by rw [← h]
  rw [exec_resetHeldLow, stands]

theorem exec_mainSupplyLoss_of_kept {s : State}
    (h : s.power.standbySupply = true ∨ s.power.mainSupply = false) :
    exec .mainSupplyLoss s = .next { s with power := { s.power with mainSupply := false } } := by
  refine congrArg Host.Outcome.next (if_neg ?_)
  rcases h with standby | already
  · simp [standby]
  · simp [already]

theorem exec_mainSupplyLoss_of_last {s : State} (main : s.power.mainSupply = true)
    (standby : s.power.standbySupply = false) : exec .mainSupplyLoss s =
      .next (loseRetained { s with power := { s.power with mainSupply := false } }) :=
  congrArg Host.Outcome.next (if_pos (by simp [main, standby]))

theorem exec_standbySupplyLoss_of_kept {s : State}
    (h : s.power.mainSupply = true ∨ s.power.standbySupply = false) :
    exec .standbySupplyLoss s = .next { s with power := { s.power with standbySupply := false } } := by
  refine congrArg Host.Outcome.next (if_neg ?_)
  rcases h with main | already
  · simp [main]
  · simp [already]

theorem exec_standbySupplyLoss_of_last {s : State} (main : s.power.mainSupply = false)
    (standby : s.power.standbySupply = true) : exec .standbySupplyLoss s =
      .next (loseRetained { s with power := { s.power with standbySupply := false } }) :=
  congrArg Host.Outcome.next (if_pos (by simp [main, standby]))

theorem exec_coldStartWritesEnd_of_writing {s : State} (hlive : live s = true)
    (phase : s.power.phase = .coldWrites) : exec .coldStartWritesEnd s = .next
      { s with
        power := { s.power with valid := true, phase := .reading }
        ret := coldArea
        readSig := 0x7FFFFFFF } :=
  congrArg Host.Outcome.next (if_pos (by simp [hlive, phase]))

theorem exec_coldStartWritesEnd_of_not_writing {s : State}
    (h : live s = false ∨ s.power.phase ≠ .coldWrites) : exec .coldStartWritesEnd s = .next s := by
  refine congrArg Host.Outcome.next (if_neg ?_)
  rcases h with off | other
  · simp [off]
  · simp [other]

/-! ### The starts (R92 to R95) -/

/-- R94: the values of any start, whatever stood before. -/
theorem makeStart_startValues (s : State) : StartValues (makeStart s) where
  install := rfl
  readSig := rfl
  merge := rfl
  time := rfl
  results := rfl
  resultSeq := rfl
  billingSeq := rfl
  inProgress := rfl
  alerts := rfl
  svc := atStart_tableStarted .service
  tar := atStart_tableStarted .tariff
  keys := rfl
  lock := rfl
  closing := rfl
  outA := atStart_outputStarted s.outA.ready
  outB := atStart_outputStarted s.outB.ready
  emergency := rfl

/-- R92: of the supplies and the reset line, a start reads the validity word alone. -/
theorem makeStart_started (s : State) (mainSupply standbySupply resetLow : Bool) :
    Started s (makeStart
      { s with power :=
        { s.power with mainSupply := mainSupply, standbySupply := standbySupply, resetLow := resetLow } }) where
  values := makeStart_startValues _
  ret := rfl
  offer := rfl
  portReady := rfl
  outAReady := rfl
  outBReady := rfl
  model := rfl
  pending := rfl

theorem exec_powerUp_of_off {s : State} (h : s.power.mainSupply = false) : exec .powerUp s =
    .next (makeStart { s with power := { s.power with mainSupply := true, standbySupply := true } }) :=
  congrArg Host.Outcome.next (if_neg (by simp [h]))

theorem exec_powerUp_of_on {s : State} (h : s.power.mainSupply = true) : exec .powerUp s = .next s :=
  congrArg Host.Outcome.next (if_pos h)

theorem exec_resetRelease_of_held {s : State} (main : s.power.mainSupply = true) (low : s.power.resetLow = true) :
    exec .resetRelease s = .next (makeStart { s with power := { s.power with resetLow := false } }) :=
  congrArg Host.Outcome.next (if_pos (by simp [main, low]))

theorem exec_resetRelease_of_not_held {s : State}
    (h : ¬(s.power.mainSupply = true ∧ s.power.resetLow = true)) :
    exec .resetRelease s = .next { s with power := { s.power with resetLow := false } } :=
  congrArg Host.Outcome.next (if_neg (by simpa using h))

end Sys2Proof.Machine

open Sys2Proof.Machine in
/-- Settles O6: a part held low or unpowered is not live, and then every other command at most samples a
ready line; a line that is low already stands when it is held low again. -/
theorem heldLowBlocksEveryBlock : Obligations.HeldLowBlocksEveryBlock := by
  intro c s sampled
  refine ⟨fun low release up mainLoss standbyLoss => ?held, fun off up mainLoss standbyLoss heldLow release =>
    exec_onlySamples c (not_live_of_unpowered off) up mainLoss standbyLoss heldLow release⟩
  by_cases again : c = .resetHeldLow
  · subst again
    have same : OnlySamples s (exec .resetHeldLow s) := by
      rw [exec_resetHeldLow_of_low low]
      exact .of_eq rfl
    exact same
  · exact exec_onlySamples c (not_live_of_heldLow low) up mainLoss standbyLoss again release

open Sys2Proof.Machine in
/-- Settles O4: both commands make the one start, and where none is due only the line can move. -/
theorem powerUpAndReleaseMakeAStart : Obligations.PowerUpAndReleaseMakeAStart := fun s =>
  ⟨fun off => ⟨_, exec_powerUp_of_off off, makeStart_started s true true s.power.resetLow, rfl⟩,
    exec_powerUp_of_on,
    fun main low => ⟨_, exec_resetRelease_of_held main low,
      makeStart_started s s.power.mainSupply s.power.standbySupply false, rfl⟩,
    exec_resetRelease_of_not_held⟩

open Sys2Proof.Machine in
/-- Settles O5: a loss takes the area exactly where no supply is left; the end of the cold start's writes by
its phase. -/
theorem suppliesAndTheRetainedArea : Obligations.SuppliesAndTheRetainedArea := fun s =>
  ⟨exec_resetHeldLow s, exec_mainSupplyLoss_of_kept,
    fun main standby => ⟨_, _, exec_mainSupplyLoss_of_last main standby⟩,
    exec_standbySupplyLoss_of_kept,
    fun main standby => ⟨_, _, exec_standbySupplyLoss_of_last main standby⟩,
    exec_coldStartWritesEnd_of_writing, exec_coldStartWritesEnd_of_not_writing⟩
end

section
/-!
The completion of a change of tenancy (O32).
-/
namespace Sys2Proof.Machine

/-- Log 5: a consumer's debt is no part of what a completion reads or leaves. -/
theorem completeTenancy_paid_completed (c : Consumer) (s : State) :
    Completed s (completeTenancy (paid c s)) := by
  obtain ⟨ret, closing, alerts, lock, outA, outB, others⟩ := completeTenancy_completed (paid c s)
  exact ⟨ret, closing, alerts, lock, outA, outB, others⟩

theorem exec_completionTimeout_of_reached {s : State} (h : timeoutReached s = true) :
    exec .completionTimeout s = .next (completeTenancy (paid .tenancy s)) := congrArg Host.Outcome.next (if_pos h)

theorem exec_completionTimeout_of_unreached {s : State}
    (h : running s = false ∨ s.ret.tenancy ≠ .closing ∨ s.closing ≠ some s.time.mono) :
    exec .completionTimeout s = .next s := by
  refine congrArg Host.Outcome.next (if_neg fun reached => ?_)
  obtain ⟨hrun, closing, expiry⟩ := (timeoutReached_iff s).mp reached
  rcases h with idle | other | early
  · cases idle.symm.trans hrun
  · exact other closing
  · exact early expiry

/-- R104: the condition is tested in CLOSING alone, and outside STARTING (log 16). -/
theorem testCompletion_of_untested {s : State} (h : running s = false ∨ s.ret.tenancy ≠ .closing) :
    testCompletion s = s := by
  rcases h with idle | other
  · simp [testCompletion, idle]
  · simp [testCompletion, other]

end Sys2Proof.Machine

open Sys2Proof.Machine in
/-- Settles O32: the timeout and the test of the condition make the one completion of R106. -/
theorem tenancyCompletes : Obligations.TenancyCompletes := by
  refine ⟨fun s hrun closing expiry => ?timeout, fun s h => exec_completionTimeout_of_unreached h,
    fun s hrun closing offered => ?condition, fun s h => ?untested⟩
  case timeout =>
    have reached : timeoutReached s = true := (timeoutReached_iff s).mpr ⟨hrun, closing, expiry⟩
    exact ⟨_, exec_completionTimeout_of_reached reached, completeTenancy_paid_completed .tenancy s, rfl⟩
  case condition =>
    rw [testCompletion_of_offered hrun closing offered]
    exact completeTenancy_completed s
  case untested =>
    rcases h with idle | other | unoffered
    · exact testCompletion_of_untested (.inl idle)
    · exact testCompletion_of_untested (.inr other)
    · exact testCompletion_of_unoffered unoffered
end

section
/-!
The lock of a room without a guest, and the queues of the outputs (O56, O58): what the operations of the part do to
the lock, to the window membership, to what the admission reads and to the units that wait (`RoomKept`).
-/
namespace Sys2Proof.Machine

/-! ### What every step keeps (R112, R120, R167) -/

/-- R167: no passed unit waits that the room may not see now. -/
def QueuesPass (s : State) : Prop := PassedAdmitted s s.outA ∧ PassedAdmitted s s.outB

/-- R120, R167: the window membership is up to date, and the units that wait are those that the room may see. -/
def Current (s : State) : Prop := s.lock.membership = membershipNow s ∧ QueuesPass s

/-- R174: nothing waits for either output. -/
def NoneQueued (s : State) : Prop := s.outA.queue = [] ∧ s.outB.queue = []

theorem NoneQueued.pass {s : State} (h : NoneQueued s) : QueuesPass s := by
  constructor <;> intro q mem
  · rw [h.1] at mem
    cases mem
  · rw [h.2] at mem
    cases mem

/-- R112: from `s` to `t` the supply and the phase of the start stand, and a lock that is LOCKED for want of a
guest, or in STARTING, stays so. -/
structure LockKept (s t : State) : Prop where
  mainSupply : t.power.mainSupply = s.power.mainSupply
  phase : t.power.phase = s.power.phase
  vacated : (s.ret.tenancy ≠ .occupied → s.lock.state = .locked) →
    t.ret.tenancy ≠ .occupied → t.lock.state = .locked
  starting : s.power.phase ≠ .running → s.lock.state = .locked → t.lock.state = .locked

/-- R112, R120, R167: what the lock keeps; and where the consumers are prompt they stay so, queues that are current
stay so, and in STARTING nothing comes to wait. -/
structure RoomKept (s t : State) : Prop extends LockKept s t where
  prompt : Prompt s → Prompt t
  current : Prompt s → s.power.phase = .running → Current s → Current t
  empty : Prompt s → s.power.phase ≠ .running → NoneQueued s → NoneQueued t

namespace LockKept

theorem refl (s : State) : LockKept s s := ⟨rfl, rfl, id, fun _ => id⟩

theorem trans {s t u : State} (h : LockKept s t) (k : LockKept t u) : LockKept s u :=
  ⟨k.mainSupply.trans h.mainSupply, k.phase.trans h.phase, k.vacated ∘ h.vacated,
    fun starting => k.starting (h.phase ▸ starting) ∘ h.starting starting⟩

theorem foldl {α : Type} (f : State → α → State) (hf : ∀ s a, LockKept s (f s a)) :
    ∀ (l : List α) (s : State), LockKept s (l.foldl f s)
  | [], s => .refl s
  | a :: l, s => (hf s a).trans (LockKept.foldl f hf l (f s a))

theorem lockedWithoutGuest {s t : State} (h : LockKept s t) (hs : LockedWithoutGuest s) :
    LockedWithoutGuest t := by
  intro powered
  obtain ⟨vacant, starting⟩ := hs (h.mainSupply ▸ powered)
  exact ⟨h.vacated vacant, fun phase => h.starting (h.phase ▸ phase) (starting (h.phase ▸ phase))⟩

/-- R112: an operation that leaves the stay and, at most, closes the lock. -/
theorem of_closing {s t : State} (mainSupply : t.power.mainSupply = s.power.mainSupply)
    (phase : t.power.phase = s.power.phase) (tenancy : t.ret.tenancy = s.ret.tenancy)
    (state : t.lock.state = s.lock.state ∨ t.lock.state = .locked) : LockKept s t := by
  have stays (locked : s.lock.state = .locked) : t.lock.state = .locked := by
    rcases state with same | closed
    · exact same.trans locked
    · exact closed
  exact ⟨mainSupply, phase, fun vacant left => stays (vacant (tenancy ▸ left)), fun _ => stays⟩

end LockKept

/-- What the rules of the lock and of the window read of the part, the admission and the queues apart. -/
def roomFrame (s : State) :=
  (s.power.mainSupply, s.power.phase, s.ret.tenancy, s.lock, membershipNow s, s.model.due, s.model.choices,
    s.svc.commitDue, s.tar.commitDue)

namespace RoomKept

theorem refl (s : State) : RoomKept s s := ⟨.refl s, id, fun _ _ => id, fun _ _ => id⟩

theorem trans {s t u : State} (h : RoomKept s t) (k : RoomKept t u) : RoomKept s u :=
  ⟨h.toLockKept.trans k.toLockKept, k.prompt ∘ h.prompt,
    fun prompt run => k.current (h.prompt prompt) (h.phase.trans run) ∘ h.current prompt run,
    fun prompt starting => k.empty (h.prompt prompt) (h.phase ▸ starting) ∘ h.empty prompt starting⟩

theorem foldl {α : Type} (f : State → α → State) (hf : ∀ s a, RoomKept s (f s a)) :
    ∀ (l : List α) (s : State), RoomKept s (l.foldl f s)
  | [], s => .refl s
  | a :: l, s => (hf s a).trans (RoomKept.foldl f hf l (f s a))

/-- Logs 4 to 6: where a consumer may take an event later, the lock alone is said to be kept. -/
theorem of_not_prompt {s t : State} (h : ¬Prompt s) (lock : LockKept s t) : RoomKept s t :=
  ⟨lock, fun prompt => absurd prompt h, fun prompt => absurd prompt h, fun prompt => absurd prompt h⟩

/-- R167: an operation that reaches the queues or what the admission reads, and no more. -/
theorem of_queues {s t : State} (frame : roomFrame t = roomFrame s) (pass : QueuesPass s → QueuesPass t)
    (empty : s.power.phase ≠ .running → NoneQueued s → NoneQueued t) : RoomKept s t := by
  simp only [roomFrame, Prod.mk.injEq] at frame
  obtain ⟨mainSupply, phase, tenancy, lock, now, due, choices, svc, tar⟩ := frame
  refine ⟨.of_closing mainSupply phase tenancy (.inl (congrArg _ lock)), fun prompt => ?_,
    fun _ _ ⟨same, hs⟩ => ?_, fun _ => empty⟩
  · unfold Prompt
    rw [due, choices, svc, tar]
    exact prompt
  · exact ⟨by rw [lock, now, same], pass hs⟩

/-- R167: units leave the queues under an admission that stands. -/
theorem of_fewer {s t : State} (frame : roomFrame t = roomFrame s) (adm : admissionOf t = admissionOf s)
    (outA : t.outA.queue ⊆ s.outA.queue) (outB : t.outB.queue ⊆ s.outB.queue) : RoomKept s t := by
  refine .of_queues frame (fun ⟨a, b⟩ => ⟨fun q mem passes => ?_, fun q mem passes => ?_⟩) fun _ ⟨a, b⟩ => ?_
  · rw [adm]
    exact a q (outA mem) passes
  · rw [adm]
    exact b q (outB mem) passes
  · exact ⟨List.subset_nil.mp (a ▸ outA), List.subset_nil.mp (b ▸ outB)⟩

/-- An operation that reaches nothing of what these rules read. -/
theorem of_same {s t : State} (frame : roomFrame t = roomFrame s)
    (gate : (admissionOf t, t.outA.queue, t.outB.queue) = (admissionOf s, s.outA.queue, s.outB.queue)) :
    RoomKept s t := by
  simp only [Prod.mk.injEq] at gate
  obtain ⟨adm, outA, outB⟩ := gate
  exact .of_fewer frame adm (outA ▸ .refl _) (outB ▸ .refl _)

/-- R161, R171, R172: both queues are discarded. -/
theorem of_discarded {s t : State} (frame : roomFrame t = roomFrame s) (none : NoneQueued t) : RoomKept s t :=
  .of_queues frame (fun _ => none.pass) fun _ _ => none

end RoomKept

/-! ### The admission purge (R167) -/

/-- R167: from `s` to `u` everything that `RoomKept` asks for, but that the units that wait are those that the room
may see. -/
structure PurgeDue (s u : State) : Prop extends LockKept s u where
  prompt : Prompt s → Prompt u
  membership : s.lock.membership = membershipNow s → u.lock.membership = membershipNow u
  empty : NoneQueued s → NoneQueued u

theorem NoneQueued.purge {s : State} (h : NoneQueued s) : NoneQueued (purge s) := by
  obtain ⟨outA, outB⟩ := h
  constructor
  · simp [Machine.purge, Output.purged, outA]
  · simp [Machine.purge, Output.purged, outB]

/-- R167: the purge makes up for it. -/
theorem PurgeDue.purged {s u : State} (h : PurgeDue s u) : RoomKept s (purge u) where
  toLockKept := h.toLockKept.trans (.of_closing rfl rfl rfl (.inl rfl))
  prompt := h.prompt
  current _ _ hs := ⟨h.membership hs.1, purge_admitted u⟩
  empty _ _ hs := (h.empty hs).purge

/-! ### The Lock Unit -/

theorem evalMembership_current {s : State} (h : QueuesPass s) : Current (evalMembership s) := ⟨rfl, h⟩

theorem evalMembership_roomKept (s : State) : RoomKept s (evalMembership s) :=
  ⟨.of_closing rfl rfl rfl (.inl rfl), id, fun _ _ hs => evalMembership_current hs.2, fun _ _ => id⟩

theorem setFailures_roomKept (n : Nat) (s : State) : RoomKept s (setFailures n s) := .of_same rfl rfl

theorem leaveUnlocked_roomKept (s : State) : RoomKept s (leaveUnlocked s) :=
  PurgeDue.purged ⟨.of_closing rfl rfl rfl (.inr rfl), id, id, id⟩

/-- R110: a lockout is as good as a LOCKED lock. -/
theorem lockoutEnded_roomKept {s : State} {e : Word32} (h : s.lock.state = .lockout e) :
    RoomKept s { s with lock := { s.lock with state := .locked } } := by
  have adm : admissionOf { s with lock := { s.lock with state := .locked } } = admissionOf s :=
    admissionOf_of_not_unlocked (by rw [h]; rfl) rfl rfl rfl rfl rfl
  exact ⟨.of_closing rfl rfl rfl (.inr rfl), id,
    fun _ _ ⟨now, a, b⟩ => ⟨now, a.congr adm, b.congr adm⟩, fun _ _ => id⟩

theorem closeLock_roomKept (s : State) : RoomKept s (closeLock s) := by
  rcases closeLock_cases s with ⟨_, e⟩ | ⟨_, _, e⟩ | ⟨_, state, e⟩ <;> rw [e]
  · exact .refl s
  · exact leaveUnlocked_roomKept s
  · exact lockoutEnded_roomKept state

theorem relockNow_roomKept (s : State) : RoomKept s (relockNow s) := by
  unfold relockNow
  split
  · exact leaveUnlocked_roomKept s
  · exact .refl s
  · exact .refl s

theorem expiryEvent_roomKept (s : State) : RoomKept s (expiryEvent s) := by
  rcases expiryEvent_cases s with e | ⟨_, _, e⟩ | ⟨_, state, e⟩ <;> rw [e]
  · exact .refl s
  · exact leaveUnlocked_roomKept s
  · exact lockoutEnded_roomKept state

theorem windowEvent_roomKept (s : State) : RoomKept s (windowEvent s) := by
  rcases windowEvent_cases s with ⟨_, e⟩ | ⟨_, _, e⟩ | ⟨_, _, e⟩ <;> rw [e]
  · exact .refl s
  · exact PurgeDue.purged ⟨.of_closing rfl rfl rfl (.inl rfl), id, fun _ => rfl, id⟩
  · exact evalMembership_roomKept s

theorem lockEvent_roomKept (s : State) : RoomKept s (lockEvent s) := by
  rcases lockEvent_cases s with ⟨_, e⟩ | ⟨_, e⟩ <;> rw [e]
  · exact (expiryEvent_roomKept s).trans (windowEvent_roomKept _)
  · exact (windowEvent_roomKept s).trans (expiryEvent_roomKept _)

/-! ### A session opens (R115) -/

/-- R110: an open lock takes nothing from what passed a closed one. -/
theorem lockTest_passes_mono {s t : State} (guest' : guest t = guest s)
    (building : t.time.building = s.time.building)
    (opened : s.lock.state.isUnlocked = true → t.lock.state.isUnlocked = true) {rating : Nat}
    (h : (lockTest s rating).passes = true) : (lockTest t rating).passes = true := by
  cases hg : guest s with
  | none =>
    rw [lockTest_of_no_guest hg] at h
    rwa [lockTest_of_no_guest (guest'.trans hg)]
  | some g =>
    have hg' : guest t = some g := guest'.trans hg
    by_cases restricts : g.threshold ≤ rating
    · cases mode : g.lockMode with
      | off =>
        rw [lockTest_of_off hg' mode]
        rfl
      | barred =>
        rw [lockTest_of_barred hg restricts mode] at h
        cases h
      | pin =>
        rw [lockTest_of_pin hg restricts mode] at h
        rw [lockTest_of_pin hg' restricts mode, building]
        cases unlocked : s.lock.state.isUnlocked with
        | false =>
          rw [unlocked] at h
          cases h
        | true =>
          rw [unlocked] at h
          rwa [opened unlocked]
    · rw [lockTest_of_unrestricted hg' (by omega)]
      rfl

/-- R162: more packages, more films and an open lock take nothing from what passed. -/
theorem admissionOf_passes_mono {s t : State} (emergency : t.emergency = s.emergency) (svc : t.svc = s.svc)
    (guest' : guest t = guest s) (building : t.time.building = s.time.building)
    (opened : s.lock.state.isUnlocked = true → t.lock.state.isUnlocked = true)
    (films : ∀ f, isBought s f = true → isBought t f = true) {n : Nat}
    (h : (admissionOf s n).passes = true) : (admissionOf t n).passes = true := by
  have test (rating : Nat) : (lockTest s rating).passes = true → (lockTest t rating).passes = true :=
    lockTest_passes_mono guest' building opened
  by_cases override : s.emergency = some n
  · rw [admissionOf_of_override (emergency.trans override)]
    rfl
  · have override' : t.emergency ≠ some n := emergency ▸ override
    have same : serviceRow t n = serviceRow s n := by simp only [serviceRow, svc]
    cases row : serviceRow s n with
    | none =>
      rw [admissionOf_of_no_row override row] at h
      cases h
    | some r =>
      have row' : serviceRow t n = some r := same.trans row
      cases access : r.access with
      | openToAll =>
        rw [admissionOf_of_open override row access] at h
        rw [admissionOf_of_open override' row' access]
        exact test _ h
      | package =>
        have held : holdsPackage t r.package = holdsPackage s r.package := by simp only [holdsPackage, guest']
        rw [admissionOf_of_package override row access] at h
        rw [admissionOf_of_package override' row' access, held]
        split at h
        · rename_i holds
          rw [if_pos holds]
          exact test _ h
        · cases h
      | film =>
        rw [admissionOf_of_film override row access] at h
        rw [admissionOf_of_film override' row' access]
        split at h
        · rename_i bought
          rw [if_pos (films _ bought)]
          exact test _ h
        · cases h
      | noMeaning =>
        simp only [admissionOf, if_neg override, row, admitRow, access] at h
        cases h

theorem QueuesPass.mono {s t : State} (h : QueuesPass s) (outA : t.outA.queue = s.outA.queue)
    (outB : t.outB.queue = s.outB.queue)
    (adm : ∀ n, (admissionOf s n).passes = true → (admissionOf t n).passes = true) : QueuesPass t := by
  constructor <;> intro q mem passes
  · exact adm _ (h.1 q (outA ▸ mem) passes)
  · exact adm _ (h.2 q (outB ▸ mem) passes)

/-- R112: with a guest outside STARTING the lock may take any state. -/
theorem LockKept.of_guest {s t : State} (power : t.power = s.power) (tenancy : t.ret.tenancy = s.ret.tenancy)
    (occupied : s.ret.tenancy = .occupied) (run : s.power.phase = .running) : LockKept s t :=
  ⟨congrArg _ power, congrArg _ power, fun _ left => absurd (tenancy.trans occupied) left, absurd run⟩

/-- R110, R167: an operation of the Lock Unit that closes no open lock. -/
theorem QueuesPass.of_lock {s t : State} (h : QueuesPass s) (e : t = { s with lock := t.lock, alerts := t.alerts })
    (opened : s.lock.state.isUnlocked = true → t.lock.state.isUnlocked = true) : QueuesPass t := by
  have ret : t.ret = s.ret := by rw [e]
  have films (f : Nat) : isBought s f = true → isBought t f = true := by simp only [isBought, ret, imp_self]
  exact h.mono (by rw [e]) (by rw [e]) fun _ => admissionOf_passes_mono (by rw [e]) (by rw [e])
    (by simp only [guest, ret]) (by rw [e]) opened films

theorem openSession_roomKept (length : Nat) {s : State} (occupied : s.ret.tenancy = .occupied)
    (run : s.power.phase = .running) : RoomKept s (openSession length s) where
  toLockKept := .of_guest rfl rfl occupied run
  prompt := id
  current _ _ hs := ⟨hs.1, hs.2.of_lock rfl fun _ => rfl⟩
  empty _ _ := id

theorem enterLockout_roomKept {s : State} (occupied : s.ret.tenancy = .occupied) (run : s.power.phase = .running)
    (locked : s.lock.state = .locked) : RoomKept s (enterLockout s) where
  toLockKept := .of_guest rfl rfl occupied run
  prompt := id
  current _ _ hs := by
    refine ⟨hs.1, hs.2.of_lock rfl fun opened => ?_⟩
    rw [locked] at opened
    cases opened
  empty _ _ := id

theorem wrongPin_roomKept {s : State} (occupied : s.ret.tenancy = .occupied) (run : s.power.phase = .running) :
    RoomKept s (wrongPin s) := by
  unfold wrongPin
  split
  · exact (leaveUnlocked_roomKept s).trans (setFailures_roomKept ..)
  · rename_i locked
    split
    · exact setFailures_roomKept ..
    · exact (enterLockout_roomKept occupied run locked).trans (setFailures_roomKept ..)
  · exact .refl s

/-- R112, R115: a session opens, and a lockout begins, with a guest alone. -/
theorem enterPin_roomKept (digits : Pin) {s : State} (run : s.power.phase = .running) :
    RoomKept s (enterPin digits s).1 := by
  unfold enterPin
  split
  · exact .refl s
  · exact .refl s
  · rename_i occupied
    have opened (length : Nat) : RoomKept s (setFailures 0 (openSession length s)) :=
      (openSession_roomKept length occupied run).trans (setFailures_roomKept ..)
    repeat' split
    all_goals first
      | exact .refl s
      | exact opened _
      | exact wrongPin_roomKept occupied run

end Sys2Proof.Machine
end

section
/-!
The purchases, the tables, the stay and the events of time (O56, O58): whatever takes a right away purges the
queues, and the Lock Unit follows the clock.
-/
namespace Sys2Proof.Machine

/-! ### The Purchase Meter -/

theorem endPurchase_roomKept (n : Nat) (reason : EndReason) (s : State) : RoomKept s (endPurchase n reason s) := by
  rcases endPurchase_cases n reason s with ⟨_, e⟩ | ⟨_, _, e⟩ <;> rw [e]
  · exact .refl s
  · exact PurgeDue.purged ⟨.of_closing rfl rfl rfl (.inl rfl), id, id, id⟩

theorem endAll_roomKept (reason : EndReason) (s : State) : RoomKept s (endAll reason s) :=
  RoomKept.foldl _ (fun s n => endPurchase_roomKept n reason s) _ s

/-- R162: a change of the purchase of a number that keeps its film. -/
theorem changePurchase_admissionOf {s t : State} {n : Nat} {f : Purchase → Purchase}
    (rest : t = { s with ret := t.ret, offer := t.offer, alerts := t.alerts })
    (guest' : guest s = guest t) (changed : t.ret.purchases = changePurchase n f s.ret.purchases)
    (keeps : ∀ p, (f p).film = p.film) : admissionOf t = admissionOf s := by
  have bought (film : Nat) : isBought s film = isBought t film := by
    have any (u : State) : isBought u film = (u.ret.purchases.map (·.film)).any (· == film) := by
      rw [List.any_map]
      rfl
    rw [any, any, changed, changePurchase_map n f (·.film) keeps]
  funext label
  exact (admissionOf_congr (by rw [rest]) (by rw [rest]) guest' (by rw [rest]) (by rw [rest])
    fun r _ => bought r.film).symm

/-- R162: an operation on the Purchase Table under which the admission stands. -/
theorem RoomKept.of_purchases {s t : State} (frame : roomFrame t = roomFrame s)
    (queues : (t.outA.queue, t.outB.queue) = (s.outA.queue, s.outB.queue))
    (adm : admissionOf t = admissionOf s) : RoomKept s t :=
  .of_same frame (by rw [Prod.mk.injEq, adm, queues]; exact ⟨rfl, rfl⟩)

theorem beginRepetition_roomKept (n position k : Nat) (s : State) :
    RoomKept s (beginRepetition n position k s) := by
  rcases beginRepetition_cases n position k s with
    ⟨_, e⟩ | ⟨_, _, ⟨_, e⟩ | ⟨_, e⟩ | ⟨_, e⟩ | ⟨_, e⟩⟩ <;> rw [e]
  · exact .refl s
  · exact .of_purchases rfl rfl (changePurchase_admissionOf rfl rfl rfl fun _ => rfl)
  · exact endPurchase_roomKept ..
  · exact endPurchase_roomKept ..
  · exact .of_purchases rfl rfl (changePurchase_admissionOf rfl rfl rfl fun _ => rfl)

theorem meterPurchase_roomKept (n : Nat) (viewed : Bool) (s : State) : RoomKept s (meterPurchase n viewed s) := by
  rcases meterPurchase_cases n viewed s with e | ⟨_, e⟩ | ⟨_, _, e⟩ | ⟨_, e⟩ <;> rw [e]
  · exact .refl s
  · exact .of_purchases rfl rfl (changePurchase_admissionOf rfl rfl rfl fun _ => rfl)
  · exact beginRepetition_roomKept ..
  · exact endPurchase_roomKept ..

theorem evalBillingDay_roomKept (s : State) : RoomKept s (evalBillingDay s) := by
  obtain ⟨_, _, e, _⟩ := evalBillingDay_ret s
  rw [e]
  exact .of_same rfl rfl

theorem meterAll_roomKept (s0 s : State) : RoomKept s (meterAll s0 s) :=
  RoomKept.foldl (fun (s : State) (p : Purchase) => meterPurchase p.number (isViewed s0 p.film) s)
    (fun s p => meterPurchase_roomKept p.number _ s) s0.ret.purchases s

theorem meterSecond_roomKept (s : State) : RoomKept s (meterSecond s) := by
  have cleared (u : State) : RoomKept u (clearViewed u) := .of_same rfl rfl
  unfold meterSecond
  split
  · refine (evalBillingDay_roomKept s).trans ?_
    dsimp only
    split
    · exact cleared _
    · exact (meterAll_roomKept _ _).trans (cleared _)
  · exact .refl s

/-- Log 5: a debt that is paid leaves the consumers prompt. -/
theorem paid_roomKept (c : Consumer) (s : State) : RoomKept s (paid c s) where
  toLockKept := .of_closing rfl rfl rfl (.inl rfl)
  prompt := fun ⟨due, rest⟩ => ⟨by rw [paid_model, due]; rfl, rest⟩
  current _ _ := id
  empty _ _ := id

theorem payMeter_roomKept (s : State) : RoomKept s (payMeter s) :=
  (paid_roomKept .meter s).trans (meterSecond_roomKept _)

/-- R162: a purchase more takes nothing from what passed. -/
theorem addPurchase_roomKept (p : Purchase) (s : State) : RoomKept s (addPurchase p s) := by
  have films (f : Nat) (bought : isBought s f = true) : isBought (addPurchase p s) f = true := by
    obtain ⟨x, mem, film⟩ := (isBought_iff s f).mp bought
    exact (isBought_iff _ f).mpr ⟨x, List.mem_append_left _ mem, film⟩
  exact .of_queues rfl
    (fun hs => hs.mono rfl rfl fun n =>
      admissionOf_passes_mono (s := s) (t := addPurchase p s) rfl rfl rfl rfl id films) fun _ => id

theorem acceptPurchase_roomKept (r : ServiceRow) (s : State) : RoomKept s (acceptPurchase r s) := by
  have added := addPurchase_roomKept (newPurchase s r) s
  unfold acceptPurchase
  dsimp only
  split
  · exact added.trans (beginRepetition_roomKept ..)
  · exact added

theorem buyFilm_roomKept (label : Nat) (s : State) : RoomKept s (buyFilm label s).1 := by
  unfold buyFilm
  split
  · exact .refl s
  · split
    · exact .refl s
    · exact acceptPurchase_roomKept _ s

theorem buy_roomKept (label : Nat) (s : State) : RoomKept s (buy label s).1 := by
  unfold buy
  repeat' split
  all_goals first
    | exact .refl s
    | exact (evalBillingDay_roomKept s).trans (buyFilm_roomKept label _)

theorem voidFilm_roomKept (film : Nat) (s : State) : RoomKept s (voidFilm film s) := by
  unfold voidFilm
  split
  · exact endPurchase_roomKept ..
  · exact .refl s

/-! ### The Table Loader -/

/-- R162: of the machines the admission reads the Service Table's active copy alone. -/
theorem withMachine_admissionOf {tb : Table} {m : TableMachine} {s : State}
    (active : tb = .tariff ∨ m.active = (machine s tb).active) :
    admissionOf (withMachine tb m s) = admissionOf s := by
  funext n
  refine admissionOf_congr rfl ?_ rfl rfl rfl fun _ _ => rfl
  cases tb with
  | service => exact active.resolve_left (by decide)
  | tariff => rfl

theorem withMachine_lockKept (tb : Table) (m : TableMachine) (s : State) : LockKept s (withMachine tb m s) :=
  .of_closing rfl rfl rfl (.inl rfl)

theorem withMachine_prompt {tb : Table} {m : TableMachine} {s : State} (hs : Prompt s)
    (due : m.commitDue = (machine s tb).commitDue ∨ m.commitDue = false) : Prompt (withMachine tb m s) := by
  obtain ⟨owed, later, svc, tar⟩ := hs
  have settled (was : (machine s tb).commitDue = false) : m.commitDue = false := by
    rcases due with same | no
    · exact same.trans was
    · exact no
  cases tb with
  | service => exact ⟨owed, later, settled svc, tar⟩
  | tariff => exact ⟨owed, later, svc, settled tar⟩

theorem withMachine_roomKept {tb : Table} {m : TableMachine} {s : State}
    (active : tb = .tariff ∨ m.active = (machine s tb).active)
    (due : m.commitDue = (machine s tb).commitDue ∨ m.commitDue = false) : RoomKept s (withMachine tb m s) where
  toLockKept := withMachine_lockKept tb m s
  prompt hs := withMachine_prompt hs due
  current _ _ := fun ⟨now, a, b⟩ =>
    ⟨now, a.congr (withMachine_admissionOf active), b.congr (withMachine_admissionOf active)⟩
  empty _ _ := id

/-- R169: a commit of the Service Table purges the queues under the new rows. -/
theorem serviceCommitted_roomKept {s made : State} (h : PurgeDue s made) : RoomKept s (serviceCommitted made) := by
  refine PurgeDue.purged
    ⟨h.toLockKept.trans (.of_closing rfl rfl rfl (.inl rfl)), h.prompt, h.membership, fun hs => ?_⟩
  obtain ⟨outA, outB⟩ := h.empty hs
  exact ⟨(Output.rowLost_queue _ made.outA).trans outA, (Output.rowLost_queue _ made.outB).trans outB⟩

theorem commit_roomKept (tb : Table) (s : State) : RoomKept s (commit tb s) := by
  have latched (u : State) : RoomKept u (latch .tableCommitted u) := .of_same rfl rfl
  rcases commit_cases tb s with ⟨_, e⟩ | ⟨_, _, made, _, rfl, ⟨rfl, e⟩ | ⟨rfl, e⟩⟩ <;> rw [e]
  · exact .refl s
  · exact (withMachine_roomKept (.inl rfl) (.inr rfl)).trans (latched _)
  · exact serviceCommitted_roomKept
      ⟨.of_closing rfl rfl rfl (.inl rfl), fun hs => withMachine_prompt hs (.inr rfl), id, id⟩

theorem commitIfDue_roomKept (tb : Table) (s : State) : RoomKept s (commitIfDue tb s) := by
  unfold commitIfDue
  split
  · exact commit_roomKept tb s
  · exact .refl s

theorem commitsDue_roomKept (s : State) : RoomKept s (commitsDue s) :=
  (commitIfDue_roomKept .service s).trans (commitIfDue_roomKept .tariff _)

theorem activateIfReached_roomKept (tb : Table) (s : State) : RoomKept s (activateIfReached tb s) := by
  unfold activateIfReached
  split
  · exact commit_roomKept tb s
  · exact .refl s

theorem loaderEvent_roomKept (s : State) : RoomKept s (loaderEvent s) :=
  (activateIfReached_roomKept .service s).trans (activateIfReached_roomKept .tariff _)

theorem usedChoice_prompt {s : State} (hs : Prompt s) : Prompt (usedChoice s) :=
  ⟨hs.1, fun c mem => hs.2.1 c (List.mem_of_mem_tail mem), hs.2.2⟩

theorem usedChoice_roomKept (s : State) : RoomKept s (usedChoice s) :=
  ⟨.of_closing rfl rfl rfl (.inl rfl), usedChoice_prompt, fun _ _ => id, fun _ _ => id⟩

/-- Logs 5 and 6: of a prompt part the next choice leaves nothing to a later step. -/
theorem nextChoice_later_of_prompt {s : State} (hs : Prompt s) : (nextChoice s).later = [] := by
  unfold nextChoice
  cases choices : s.model.choices with
  | nil => rfl
  | cons c rest => exact hs.2.1 c (by rw [choices]; exact List.mem_cons_self)

/-- R67, log 6: a commit that the choice of `s` puts off is put off by no prompt part. -/
theorem decideCommit_roomKept (tb : Table) {s u : State} (h : RoomKept s u) :
    RoomKept s (decideCommit ((nextChoice s).later.contains .loader) tb u) := by
  unfold decideCommit
  split
  · rename_i later
    refine .of_not_prompt (fun prompt => ?_) (h.toLockKept.trans (withMachine_lockKept ..))
    rw [nextChoice_later_of_prompt prompt] at later
    cases later
  · exact h.trans (commit_roomKept tb u)

theorem execCheckCompletion_roomKept (tb : Table) {s u : State} (h : execCheckCompletion tb s = .next u) :
    RoomKept s u := by
  have recorded (sig : Register31) : RoomKept s (withMachine tb (recordSignature sig (machine s tb)) s) :=
    withMachine_roomKept (.inr rfl) (.inl rfl)
  have decided (sig : Register31) : RoomKept s (decideCommit ((nextChoice s).later.contains .loader) tb
      (usedChoice (withMachine tb (recordSignature sig (machine s tb)) s))) :=
    decideCommit_roomKept tb ((recorded sig).trans (usedChoice_roomKept _))
  have rejected (m : TableMachine) (active : m.active = (machine s tb).active)
      (due : m.commitDue = (machine s tb).commitDue) : RoomKept s (rejectStage tb m s) :=
    (withMachine_roomKept (m := { m with stage := .idle }) (.inr active) (.inl due)).trans (.of_same rfl rfl)
  cases h
  dsimp only
  repeat' split
  all_goals first
    | exact .refl s
    | exact decided ..
    | exact withMachine_roomKept (.inr rfl) (.inl rfl)
    | exact rejected _ rfl rfl

theorem openTable_commitDue (tb : Table) (g : Nat) (m : TableMachine) :
    (openTable tb g m).commitDue = m.commitDue := by
  unfold openTable
  split <;> rfl

theorem rowsInto_commitDue (x : RowsOperands) (m : TableMachine) : (rowsInto x m).commitDue = m.commitDue := by
  unfold rowsInto
  repeat' split
  all_goals rfl

theorem closeTable_commitDue (x : CloseOperands) (m : TableMachine) :
    (closeTable x m).commitDue = m.commitDue := by
  unfold closeTable
  repeat' split
  all_goals rfl

/-! ### The Tenancy Unit -/

/-- R106, R120: whatever stood before, a completion leaves the lock closed and the queues current. -/
theorem completeTenancy_current (s : State) : Current (completeTenancy s) := ⟨rfl, purge_admitted _⟩

theorem completeTenancy_locked (s : State) : (completeTenancy s).lock.state = .locked := rfl

theorem completeTenancy_roomKept (s : State) : RoomKept s (completeTenancy s) where
  mainSupply := rfl
  phase := rfl
  vacated _ _ := completeTenancy_locked s
  starting _ _ := completeTenancy_locked s
  prompt := id
  current _ _ _ := completeTenancy_current s
  empty _ _ hs := NoneQueued.purge hs

theorem testCompletion_roomKept (s : State) : RoomKept s (testCompletion s) := by
  rcases testCompletion_cases s with ⟨_, _, _, e⟩ | e <;> rw [e]
  · exact completeTenancy_roomKept s
  · exact .refl s

theorem tenancySecond_roomKept (s : State) : RoomKept s (tenancySecond s) := by
  rcases tenancySecond_cases s with e | e <;> rw [e]
  · exact completeTenancy_roomKept s
  · exact .refl s

/-- R96, R120: whatever the membership was, the start-up completion evaluates it. -/
theorem startUpCompletion_current {s : State} (h : QueuesPass s) : Current (startUpCompletion s) := by
  cases tenancy : s.ret.tenancy with
  | closing =>
    rw [startUpCompletion, tenancy]
    exact completeTenancy_current s
  | occupied =>
    rw [startUpCompletion, tenancy]
    exact evalMembership_current ((endAll_spec .power s).admitted h)
  | vacant =>
    rw [startUpCompletion, tenancy]
    exact evalMembership_current h

theorem startUpCompletion_roomKept (s : State) : RoomKept s (startUpCompletion s) := by
  unfold startUpCompletion
  split
  · exact completeTenancy_roomKept s
  · exact (endAll_roomKept _ s).trans (evalMembership_roomKept _)
  · exact evalMembership_roomKept s

/-! ### A record for the guest, and a change of tenancy (R100, R103) -/

theorem OutputPurged.none_queued {adms : List (Nat → Verdict)} {before after : Output}
    (h : OutputPurged adms before after) (none : before.queue = []) : after.queue = [] :=
  List.length_eq_zero_iff.mp (by rw [h.queue.1, none]; rfl)

/-- R100, R120, R121: the Lock Unit evaluates the membership and, at most, closes the lock; the gate purges. -/
theorem replaceActive_roomKept (old new : RoomRecord) (s : State) : RoomKept s (replaceActive old new s) := by
  obtain ⟨done, all, written, purged, admitted⟩ := replaceActive_taken old new s
  have locked : .lock ∈ done := all.mem_iff.mpr (by decide)
  have gated : .gate ∈ done := all.mem_iff.mpr (by decide)
  have lock := written.lock
  rw [if_pos locked] at lock
  have now : membershipNow (replaceActive old new s) = membershipNow (recordReplaced new s) :=
    membershipNow_congr (by rw [written.ret]) (by rw [written.ret]) (by rw [written.frame.time])
  have power : (replaceActive old new s).power = s.power := written.frame.power
  refine ⟨.of_closing (congrArg _ power) (congrArg _ power) (by rw [written.ret]; rfl) ?_, fun hs => ?_,
    fun _ _ _ => ⟨by rw [lock, now], admitted gated⟩,
    fun _ _ hs => ⟨(purged .a).none_queued hs.1, (purged .b).none_queued hs.2⟩⟩
  · rw [lock]
    cases lockFieldsDiffer old new with
    | true => exact .inr rfl
    | false => exact .inl rfl
  · rw [written.frame]
    exact usedChoice_prompt hs

theorem takeActive_roomKept (r : RoomRecord) (s : State) : RoomKept s (takeActive r s) := by
  unfold takeActive
  repeat' split
  all_goals first
    | exact replaceActive_roomKept ..
    | exact .of_same rfl rfl

/-- R103, R122: the lock is LOCKED when the stay is closed. -/
theorem stayClosed_roomKept (s : State) : RoomKept s (stayClosed s) := by
  obtain ⟨-, ret, -, lock, -, -, purged, admission, admitted, frame⟩ := stayClosed_spec s
  generalize stayClosed s = v at ret lock purged admission admitted frame
  have power : v.power = s.power := by rw [frame]; rfl
  have vacant : v.ret.tenancy ≠ .occupied := by rw [ret]; simp
  have locked : v.lock.state = .locked := by rw [lock]
  refine ⟨⟨congrArg _ power, congrArg _ power, fun _ _ => locked, fun _ _ => locked⟩, fun hs => ?_,
    fun _ _ _ => ⟨?_, admitted.1.congr admission, admitted.2.congr admission⟩,
    fun _ _ hs => ⟨(purged .a).none_queued hs.1, (purged .b).none_queued hs.2⟩⟩
  · rw [frame]
    exact usedChoice_prompt hs
  · rw [lock, membershipNow_of_not_occupied vacant]

theorem beginClosing_roomKept (s : State) : RoomKept s (beginClosing s) := by
  rw [beginClosing_eq]
  exact (stayClosed_roomKept s).trans (testCompletion_roomKept _)

end Sys2Proof.Machine
end

section
/-!
The events of time (O56, O58): until the Lock Unit has taken the event, the membership may stand at the other
side of an edge of the window; once it has, the queues are current again (`TimeTaken`).
-/
namespace Sys2Proof.Machine

/-! ### Admission and the window (R110, R111, R120) -/

theorem membershipNow_of_no_guest {s : State} (h : guest s = none) : membershipNow s = .none := by
  rw [membershipNow, h]

section
variable {s : State} {g : RoomRecord}

theorem membershipNow_of_no_window (hg : guest s = some g) (h : g.window = none) : membershipNow s = .none := by
  simp only [membershipNow, hg, h]

theorem membershipNow_of_window {w : Window} (hg : guest s = some g) (h : g.window = some w) :
    membershipNow s = if insideWindow s.time.building w then .inside else .outside := by
  simp only [membershipNow, hg, h]

end

/-- R110, R120: of the time the lock test reads no more than the window membership says. -/
theorem lockTest_of_membership {s t : State} (guest' : guest t = guest s) (lock : t.lock = s.lock)
    (now : membershipNow t = membershipNow s) (rating : Nat) : lockTest t rating = lockTest s rating := by
  cases hg : guest s with
  | none => rw [lockTest_of_no_guest hg, lockTest_of_no_guest (guest'.trans hg)]
  | some g =>
    have hg' : guest t = some g := guest'.trans hg
    by_cases restricts : g.threshold ≤ rating
    · cases mode : g.lockMode with
      | off => rw [lockTest_of_off hg mode, lockTest_of_off hg' mode]
      | barred => rw [lockTest_of_barred hg restricts mode, lockTest_of_barred hg' restricts mode]
      | pin =>
        have inside : g.window.all (insideWindow t.time.building) =
            g.window.all (insideWindow s.time.building) := by
          cases window : g.window with
          | none => rfl
          | some w =>
            rw [membershipNow_of_window hg window, membershipNow_of_window hg' window] at now
            rw [Option.all_some, Option.all_some]
            revert now
            cases insideWindow t.time.building w <;> cases insideWindow s.time.building w <;> decide
        rw [lockTest_of_pin hg restricts mode, lockTest_of_pin hg' restricts mode, lock, inside]
    · rw [lockTest_of_unrestricted hg (by omega), lockTest_of_unrestricted hg' (by omega)]

/-- R162: admission where the lock test gives what it gave. -/
theorem admissionOf_of_lockTest {s t : State} (emergency : t.emergency = s.emergency) (svc : t.svc = s.svc)
    (ret : t.ret = s.ret) (test : ∀ rating, lockTest t rating = lockTest s rating) :
    admissionOf t = admissionOf s := by
  have holds (k : Nat) : holdsPackage t k = holdsPackage s k := by simp only [holdsPackage, guest, ret]
  have bought (f : Nat) : isBought t f = isBought s f := by simp only [isBought, ret]
  funext n
  have row : serviceRow t n = serviceRow s n := by simp only [serviceRow, svc]
  rw [admissionOf, admissionOf, emergency, row]
  cases serviceRow s n with
  | none => rfl
  | some r =>
    have same : admitRow t (some r) = admitRow s (some r) := by
      cases access : r.access <;> simp only [admitRow, access, test, holds, bought]
    rw [same]

/-- R120: the window is the same, so a membership that time has moved has crossed an edge. -/
theorem crossesEdge_of_moved {s t : State} (guest' : guest t = guest s)
    (moved : membershipNow t ≠ membershipNow s) : crossesEdge (membershipNow s) (membershipNow t) = true := by
  cases hg : guest s with
  | none =>
    rw [membershipNow_of_no_guest hg, membershipNow_of_no_guest (guest'.trans hg)] at moved
    exact absurd rfl moved
  | some g =>
    have hg' : guest t = some g := guest'.trans hg
    cases window : g.window with
    | none =>
      rw [membershipNow_of_no_window hg window, membershipNow_of_no_window hg' window] at moved
      exact absurd rfl moved
    | some w =>
      rw [membershipNow_of_window hg window, membershipNow_of_window hg' window] at moved ⊢
      revert moved
      cases insideWindow t.time.building w <;> cases insideWindow s.time.building w <;> decide

/-- R120: the membership stands at the other side of an edge of the window. -/
def EdgeCrossed (s : State) : Prop := crossesEdge s.lock.membership (membershipNow s) = true

theorem EdgeCrossed.congr {s t : State} (h : EdgeCrossed s) (lock : t.lock = s.lock)
    (now : membershipNow t = membershipNow s) : EdgeCrossed t := by
  rw [EdgeCrossed, lock, now]
  exact h

/-- R120, R167: when time moves, the queues are current still, or an edge of the window is crossed. -/
theorem Current.timed {s : State} (h : Current s) (time : TimeBase) (model : Schedule) :
    Current { s with time := time, model := model } ∨ EdgeCrossed { s with time := time, model := model } := by
  obtain ⟨membership, a, b⟩ := h
  by_cases now : membershipNow { s with time := time, model := model } = membershipNow s
  · have adm : admissionOf { s with time := time, model := model } = admissionOf s :=
      admissionOf_of_lockTest rfl rfl rfl (lockTest_of_membership rfl rfl now)
    exact .inl ⟨membership.trans now.symm, a.congr adm, b.congr adm⟩
  · refine .inr ?_
    rw [EdgeCrossed, membership]
    exact crossesEdge_of_moved rfl now

/-- R120: the Lock Unit evaluates the membership, and purges the queues where an edge is crossed. -/
theorem windowEvent_current {s : State} (hrun : running s = true) (h : Current s ∨ EdgeCrossed s) :
    Current (windowEvent s) := by
  rcases windowEvent_cases s with ⟨idle, _⟩ | ⟨_, _, e⟩ | ⟨_, stays, e⟩
  · cases idle.symm.trans hrun
  · rw [e]
    exact ⟨rfl, purge_admitted _⟩
  · rw [e]
    rcases h with current | crossed
    · exact evalMembership_current current.2
    · cases stays.symm.trans crossed

theorem expiryEvent_membership (s : State) : (expiryEvent s).lock.membership = s.lock.membership := by
  rcases expiryEvent_cases s with e | ⟨_, _, e⟩ | ⟨_, _, e⟩ <;> rw [e]
  rfl

theorem expiryEvent_membershipNow (s : State) : membershipNow (expiryEvent s) = membershipNow s :=
  membershipNow_congr (congrArg _ (expiryEvent_byLock s).ret) (congrArg _ (expiryEvent_byLock s).ret)
    (congrArg _ (expiryEvent_untouched s).time)

/-- R119, R120: in either order of its two reactions. -/
theorem lockEvent_current {s : State} (prompt : Prompt s) (hrun : running s = true)
    (h : Current s ∨ EdgeCrossed s) : Current (lockEvent s) := by
  have run (u : State) (same : Untouched s u) : running u = true := same.running.trans hrun
  rcases lockEvent_cases s with ⟨_, e⟩ | ⟨_, e⟩ <;> rw [e]
  · refine windowEvent_current (run _ (expiryEvent_untouched s)) (h.imp (fun current => ?_) fun crossed => ?_)
    · exact (expiryEvent_roomKept s).current prompt ((running_iff s).mp hrun).2.2 current
    · rw [EdgeCrossed, expiryEvent_membership, expiryEvent_membershipNow]
      exact crossed
  · have still := run _ (windowEvent_untouched s)
    exact (expiryEvent_roomKept _).current ((windowEvent_roomKept s).prompt prompt) ((running_iff _).mp still).2.2
      (windowEvent_current hrun h)

/-! ### The consumers of the two events of time (R47) -/

theorem takeSecond_roomKept (c : Consumer) (s : State) : RoomKept s (takeSecond c s) := by
  cases c with
  | lock => exact lockEvent_roomKept s
  | meter => exact meterSecond_roomKept s
  | loader => exact loaderEvent_roomKept s
  | tenancy => exact tenancySecond_roomKept s
  | keys => exact .refl s
  | gate => exact .refl s

theorem takeStep_roomKept (c : Consumer) (s : State) : RoomKept s (takeStep c s) := by
  cases c with
  | lock => exact windowEvent_roomKept s
  | meter => exact evalBillingDay_roomKept s
  | loader => exact loaderEvent_roomKept s
  | tenancy => exact .refl s
  | keys => exact .refl s
  | gate => exact .refl s

theorem settle_roomKept (s : State) : RoomKept s (settle s) := by
  have cleared : RoomKept s { s with model := { s.model with due := [] } } :=
    ⟨.of_closing rfl rfl rfl (.inl rfl), fun ⟨_, rest⟩ => ⟨rfl, rest⟩, fun _ _ => id, fun _ _ => id⟩
  exact cleared.trans (RoomKept.foldl _ (fun s c => takeSecond_roomKept c s) _ _)

/-- R47, R120: of a running part the consumers in `done` have taken an event of time: once the Lock Unit is among
them the queues are current. -/
structure TimeTaken (done : List Consumer) (u : State) : Prop where
  prompt : Prompt u
  run : running u = true
  lock : Current u ∨ (.lock ∉ done ∧ EdgeCrossed u)

theorem TimeTaken.current {done : List Consumer} {u : State} (h : TimeTaken done u) (locked : .lock ∈ done) :
    Current u := h.lock.resolve_right fun ⟨fresh, _⟩ => fresh locked

/-- R120: another consumer than the Lock Unit leaves the membership at its side of the edge, or evaluates it. -/
theorem TimeTaken.take {done : List Consumer} {u v : State} (h : TimeTaken done u) {c : Consumer}
    (kept : RoomKept u v) (untouched : Untouched u v) (other : c ≠ .lock)
    (crossed : EdgeCrossed u → Current v ∨ EdgeCrossed v) : TimeTaken (c :: done) v where
  prompt := kept.prompt h.prompt
  run := untouched.running.trans h.run
  lock := by
    rcases h.lock with current | ⟨fresh, edge⟩
    · exact .inl (kept.current h.prompt ((running_iff u).mp h.run).2.2 current)
    · refine (crossed edge).imp_right fun edge => ⟨fun mem => ?_, edge⟩
      rcases List.mem_cons.mp mem with same | mem
      · exact other same.symm
      · exact fresh mem

theorem TimeTaken.takeLock {done : List Consumer} {u v : State} (h : TimeTaken done u) {c : Consumer}
    (kept : RoomKept u v) (untouched : Untouched u v) (current : Current u ∨ EdgeCrossed u → Current v) :
    TimeTaken (c :: done) v :=
  ⟨kept.prompt h.prompt, untouched.running.trans h.run, .inl (current (h.lock.imp_right And.right))⟩

theorem loaderEvent_edge {s : State} (h : EdgeCrossed s) : EdgeCrossed (loaderEvent s) :=
  h.congr (loaderEvent_byLoader s).lock
    (membershipNow_congr (congrArg _ (loaderEvent_byLoader s).ret) (congrArg _ (loaderEvent_byLoader s).ret)
      (congrArg _ (loaderEvent_untouched s).time))

/-- R47: one more consumer takes the second event. -/
theorem takeSecond_taken {done : List Consumer} {u : State} (c : Consumer) (h : TimeTaken done u) :
    TimeTaken (c :: done) (takeSecond c u) := by
  have kept := takeSecond_roomKept c u
  have untouched := takeSecond_untouched c u
  cases c with
  | lock => exact h.takeLock kept untouched (lockEvent_current h.prompt h.run)
  | meter =>
    have meter := meterSecond_byMeter u
    exact h.take kept untouched (by decide) fun edge => .inr <| edge.congr meter.lock
      (membershipNow_congr meter.tenancy meter.active (congrArg _ untouched.time))
  | loader => exact h.take kept untouched (by decide) fun edge => .inr (loaderEvent_edge edge)
  | tenancy =>
    refine h.take kept untouched (by decide) fun edge => ?_
    show Current (tenancySecond u) ∨ EdgeCrossed (tenancySecond u)
    rcases tenancySecond_cases u with e | e <;> rw [e]
    · exact .inl (completeTenancy_current u)
    · exact .inr edge
  | keys => exact h.take kept untouched (by decide) .inr
  | gate => exact h.take kept untouched (by decide) .inr

/-- R47: one more consumer takes the time step event. -/
theorem takeStep_taken {done : List Consumer} {u : State} (c : Consumer) (h : TimeTaken done u) :
    TimeTaken (c :: done) (takeStep c u) := by
  have kept := takeStep_roomKept c u
  have untouched := takeStep_untouched c u
  cases c with
  | lock => exact h.takeLock kept untouched (windowEvent_current h.run)
  | meter =>
    have meter := evalBillingDay_byMeter u
    exact h.take kept untouched (by decide) fun edge => .inr <| edge.congr meter.lock
      (membershipNow_congr meter.tenancy meter.active (congrArg _ untouched.time))
  | loader => exact h.take kept untouched (by decide) fun edge => .inr (loaderEvent_edge edge)
  | tenancy => exact h.take kept untouched (by decide) .inr
  | keys => exact h.take kept untouched (by decide) .inr
  | gate => exact h.take kept untouched (by decide) .inr

theorem running_of_live {s : State} (hlive : live s = true) (run : s.power.phase = .running) :
    running s = true := by
  simp [running, hlive, run]

/-- R47, R120: an event of time that moves the clock of a live part, and that every consumer in `cs`, the Lock Unit
among them, takes in the order of a choice. -/
theorem timeEvent_roomKept {s : State} (hlive : live s = true) (time : TimeBase) (model : Schedule)
    (prompt : Prompt { s with time := time, model := model }) {f : State → Consumer → State}
    (kept : ∀ u c, RoomKept u (f u c))
    (taken : ∀ done c u, TimeTaken done u → TimeTaken (c :: done) (f u c)) {cs : List Consumer}
    (distinct : cs.Nodup) (lock : .lock ∈ cs) (order : List Consumer) :
    RoomKept s ((inOrder order cs).foldl f { s with time := time, model := model }) := by
  have moved : LockKept s { s with time := time, model := model } := .of_closing rfl rfl rfl (.inl rfl)
  have folded := RoomKept.foldl f kept (inOrder order cs) { s with time := time, model := model }
  refine ⟨moved.trans folded.toLockKept, fun _ => folded.prompt prompt, fun _ run current => ?_,
    fun _ starting none => folded.empty prompt starting none⟩
  have start : TimeTaken [] { s with time := time, model := model } :=
    ⟨prompt, running_of_live hlive run, (current.timed time model).imp_right fun edge => ⟨by simp, edge⟩⟩
  obtain ⟨done, all, done_taken⟩ :=
    foldl_inOrder (motive := TimeTaken) distinct (fun done c u _ _ => taken done c u) order start
  exact done_taken.current (all.mem_iff.mpr lock)

/-! ### The second event and the time step event (R41, R45) -/

theorem deliverSecond_lockKept (later : List Consumer) (c : Consumer) (s : State) :
    LockKept s (deliverSecond later c s) := by
  unfold deliverSecond
  split
  · exact .of_closing rfl rfl rfl (.inl rfl)
  · exact (takeSecond_roomKept c s).toLockKept

theorem secondEvent_lockKept (s : State) : LockKept s (secondEvent s) := by
  rw [secondEvent_eq]
  refine (settle_roomKept s).toLockKept.trans
    (LockKept.trans ?_ (LockKept.foldl _ (fun s c => deliverSecond_lockKept _ c s) _ _))
  exact .of_closing rfl rfl rfl (.inl rfl)

theorem secondEvent_roomKept {s : State} (hlive : live s = true) : RoomKept s (secondEvent s) := by
  by_cases prompt : Prompt s
  · have later := nextChoice_later_of_prompt prompt
    have now : (fun (u : State) c => deliverSecond [] c u) = fun u c => takeSecond c u := rfl
    rw [secondEvent_eq, later, now, settle_of_none prompt.1]
    refine timeEvent_roomKept (cs := secondConsumers) hlive _ _ ?_ (fun u c => takeSecond_roomKept c u)
      (fun _ c _ => takeSecond_taken c) (by decide) (by decide) _
    exact ⟨rfl, (usedChoice_prompt prompt).2⟩
  · exact .of_not_prompt prompt (secondEvent_lockKept s)

theorem adoptTime_lockKept (t : BuildingTime) (s : State) : LockKept s (adoptTime t s) := by
  unfold adoptTime
  split
  · exact .refl s
  · refine (settle_roomKept s).toLockKept.trans
      (LockKept.trans ?_ (LockKept.foldl _ (fun s c => (takeStep_roomKept c s).toLockKept) _ _))
    exact .of_closing rfl rfl rfl (.inl rfl)

theorem adoptTime_roomKept (t : BuildingTime) {s : State} (hlive : live s = true) :
    RoomKept s (adoptTime t s) := by
  by_cases prompt : Prompt s
  · unfold adoptTime
    split
    · exact .refl s
    · rw [settle_of_none prompt.1]
      exact timeEvent_roomKept (cs := [.lock, .meter, .loader]) hlive { s.time with building := some t }
        (usedChoice s).model (usedChoice_prompt prompt) (fun u c => takeStep_roomKept c u)
        (fun _ c _ => takeStep_taken c) (by decide) (by decide) _
  · exact .of_not_prompt prompt (adoptTime_lockKept t s)

end Sys2Proof.Machine
end

section
/-!
The Classifier and the parsers, the media path, the ports, the starts, and then every command (O56, O58).
-/
namespace Sys2Proof.Machine

/-! ### The media path (R163, R164) -/

/-- R163: a unit that passes is one that the room may see. -/
theorem unitVerdict_passes {admission : Verdict} {outcome : Outcome} {entryWait start : Bool}
    (h : (unitVerdict admission outcome entryWait start).passes = true) : admission.passes = true := by
  unfold unitVerdict at h
  split at h
  · exact h
  · rename_i passes
    simpa using passes

/-- R163, R164: what a gated unit adds to a queue is passed where the room may see it alone. -/
theorem gatedOutput_admitted {s : State} {out : Output} (h : PassedAdmitted s out) (u : CarriageUnit)
    (stamp : BitVec 24) (outcome : Outcome) (payload : List Byte) :
    PassedAdmitted s (gatedOutput s u stamp outcome payload out) := by
  unfold gatedOutput Output.gated
  split
  · split
    · intro q mem passes
      rcases List.mem_append.mp mem with old | new
      · exact h q old passes
      · obtain rfl := List.mem_singleton.mp new
        exact unitVerdict_passes passes
    · exact h
  · exact h

theorem presentUnit_roomKept (u : CarriageUnit) (stamp : BitVec 24) {s : State} (run : s.power.phase = .running) :
    RoomKept s (presentUnit u stamp s) :=
  .of_queues rfl (fun ⟨a, b⟩ => ⟨gatedOutput_admitted a u stamp _ _, gatedOutput_admitted b u stamp _ _⟩)
    (absurd run)

theorem classifyMedia_roomKept (u : CarriageUnit) (stamp : BitVec 24) {s : State}
    (run : s.power.phase = .running) : RoomKept s (classifyMedia u stamp s) := by
  have checked : RoomKept s (checkSequence u s) := .of_same rfl rfl
  unfold classifyMedia
  dsimp only
  repeat' split
  all_goals first
    | exact .refl s
    | exact checked.trans (presentUnit_roomKept u stamp run)

/-! ### The inputs, the Classifier and the parsers -/

theorem tookFeed_roomKept (s : State) : RoomKept s (tookFeed s) := .of_same rfl rfl

theorem tookLocal_roomKept (s : State) : RoomKept s (tookLocal s) := .of_same rfl rfl

theorem offerFeed_roomKept (u : CarriageUnit) (s : State) : RoomKept s (offerFeed u s) := by
  unfold offerFeed
  split <;> exact .of_same rfl rfl

/-- R12: a unit is taken outside STARTING. -/
theorem running_of_localTakes {s : State} {row : LocalRow} {q : StampedUnit} (taken : LocalTakes s row q) :
    running s = true := by
  by_contra idle
  cases (heads_of_not_running (Bool.eq_false_iff.mpr idle)).2.symm.trans taken.1

theorem running_afterLocal {s : State} {row : LocalRow} {q : StampedUnit} (taken : LocalTakes s row q) :
    running (afterLocal s) = true :=
  (commitsDue_untouched s).running.trans (running_of_localTakes taken)

theorem onFeed_roomKept (row : FeedRow) {act : CarriageUnit → State → State}
    (hact : ∀ u s, running s = true → RoomKept s (act u s)) (s : State) : RoomKept s (onFeed row act s) := by
  by_cases taken : ∃ q, FeedTakes s row q
  · obtain ⟨q, taken⟩ := taken
    rw [onFeed_of_taken taken]
    exact ((commitsDue_roomKept s).trans (tookFeed_roomKept _)).trans (hact _ _ (running_afterFeed taken))
  · rw [onFeed_of_not_taken fun q h => taken ⟨q, h⟩]
    exact .refl s

theorem onDirective_roomKept {α : Type} (row : FeedRow) (read : List Byte → Option α)
    {act : α → State → State} (hact : ∀ x s, RoomKept s (act x s)) (s : State) :
    RoomKept s (onDirective row read act s) := by
  refine onFeed_roomKept row (fun u s _ => ?_) s
  split
  · exact hact ..
  · exact .of_same rfl rfl

theorem onLocal_roomKept (row : LocalRow) {act : CarriageUnit → State → State}
    (hact : ∀ u s, running s = true → RoomKept s (act u s)) (s : State) : RoomKept s (onLocal row act s) := by
  by_cases taken : ∃ q, LocalTakes s row q
  · obtain ⟨q, taken⟩ := taken
    rw [onLocal_of_taken taken]
    exact ((commitsDue_roomKept s).trans (tookLocal_roomKept _)).trans (hact _ _ (running_afterLocal taken))
  · rw [onLocal_of_not_taken fun q h => taken ⟨q, h⟩]
    exact .refl s

theorem pushResult_roomKept (r : Result) (s : State) : RoomKept s (pushResult r s) := .of_same rfl rfl

theorem onCommand_roomKept {α : Type} (kind : CommandKind) (read : List Byte → Option α)
    {act : α → State → Reply} (hact : ∀ x s, running s = true → RoomKept s (act x s).1) (s : State) :
    RoomKept s (onCommand kind read act s) := by
  refine onLocal_roomKept _ (fun u s run => ?_) s
  split
  · exact (hact _ _ run).trans (pushResult_roomKept ..)
  · exact pushResult_roomKept ..

theorem takeEntry_roomKept (s : State) (e : KeyEntry) : RoomKept s (takeEntry s e) := by
  by_cases accepted : accepts s e = true
  · rw [takeEntry_of_accepted accepted]
    rcases placeEntry_cases e s with ⟨i, k, placed⟩ | placed | placed <;> rw [placed]
    · exact .of_same rfl rfl
    · exact .of_same rfl rfl
    · exact .refl s
  · rw [takeEntry_of_refused accepted]
    exact .refl s

theorem receive_roomKept (serial : Nat) (s : State) : RoomKept s (receive serial s) := by
  unfold receive
  split
  · exact RoomKept.trans (t := removeThrough serial s) (.of_same rfl rfl) (testCompletion_roomKept _)
  · exact .refl s

/-! ### Selections (R161, R171, R172) -/

/-- R161: the queue of the output is discarded. -/
theorem selectLabel_roomKept (x : OutputId × Nat) (s : State) : RoomKept s (selectLabel x s).1 := by
  have selected (o : OutputId) (label : Nat) : RoomKept s (selectOn o label s) := by
    cases o with
    | a => exact .of_fewer rfl rfl (List.nil_subset _) (.refl _)
    | b => exact .of_fewer rfl rfl (.refl _) (List.nil_subset _)
  unfold selectLabel
  repeat' split
  all_goals first
    | exact .refl s
    | exact selected ..

theorem beginEmergency_roomKept (label : Nat) (s : State) : RoomKept s (beginEmergency label s) := by
  unfold beginEmergency
  split
  · exact .of_same rfl rfl
  · split
    · exact .refl s
    · exact .of_discarded rfl ⟨rfl, rfl⟩

theorem endEmergency_roomKept (s : State) : RoomKept s (endEmergency s) := by
  unfold endEmergency
  split
  · exact .refl s
  · exact .of_discarded rfl ⟨rfl, rfl⟩

/-! ### The ports out -/

theorem sampleReturn_roomKept (ready : Bool) (s : State) : RoomKept s (sampleReturn ready s) := .of_same rfl rfl

theorem beginResult_roomKept (s : State) : RoomKept s (beginResult s) := by
  unfold beginResult
  repeat' split
  all_goals exact .of_same rfl rfl

theorem endResult_roomKept (s : State) : RoomKept s (endResult s) := by
  unfold endResult
  repeat' split
  all_goals exact .of_same rfl rfl

theorem beginBilling_roomKept (s : State) : RoomKept s (beginBilling s) := by
  unfold beginBilling
  repeat' split
  all_goals exact .of_same rfl rfl

theorem takeNotice_roomKept (serial : Nat) (s : State) : RoomKept s (takeNotice serial s) := by
  unfold takeNotice
  split
  · refine RoomKept.trans ?_ (testCompletion_roomKept _)
    exact .of_same rfl rfl
  · exact .refl s

theorem endBilling_roomKept (s : State) : RoomKept s (endBilling s) := by
  unfold endBilling
  split
  · split
    · refine RoomKept.trans ?_ (takeNotice_roomKept ..)
      exact .of_same rfl rfl
    · exact .refl s
  · exact .refl s
  · exact .refl s

/-- R166: a unit that an Output Stage begins leaves the queue. -/
theorem Output.beginUnit_queue (isLive withTrailer ready : Bool) (out : Output) :
    (out.beginUnit isLive withTrailer ready).queue ⊆ out.queue := by
  unfold Output.beginUnit
  split
  · exact .refl _
  · rename_i q rest queue
    split
    · rw [queue]
      exact List.subset_cons_self q rest
    · exact .refl _

theorem withOutput_roomKept (o : OutputId) {out : Output} {s : State} (queue : out.queue ⊆ (output s o).queue) :
    RoomKept s (withOutput o out s) := by
  cases o with
  | a => exact .of_fewer rfl rfl queue (.refl _)
  | b => exact .of_fewer rfl rfl (.refl _) queue

theorem tick_roomKept (s : State) : RoomKept s (tick s) := by
  unfold tick
  split <;> exact .of_same rfl rfl

/-! ### What the statements ask for -/

/-- R112, R120, R167: a step from `s` to `t` keeps the lock closed without a guest, and where the consumers are
prompt the queues admitted. -/
structure RoomSafe (s t : State) : Prop where
  lock : LockedWithoutGuest s → LockedWithoutGuest t
  queues : Prompt s → QueuesAdmitted s → Prompt t ∧ QueuesAdmitted t

theorem RoomKept.safe {s t : State} (h : RoomKept s t) : RoomSafe s t where
  lock := h.lockedWithoutGuest
  queues prompt hs := by
    refine ⟨h.prompt prompt, fun powered => ?_⟩
    obtain ⟨current, empty⟩ := hs (h.mainSupply ▸ powered)
    rw [h.phase]
    exact ⟨fun run => h.current prompt run (current run), fun starting => h.empty prompt starting (empty starting)⟩

namespace RoomSafe

theorem refl (s : State) : RoomSafe s s := (RoomKept.refl s).safe

/-- R91: of an unpowered part nothing is said. -/
theorem of_unpowered {s t : State} (off : t.power.mainSupply = false) (prompt : Prompt s → Prompt t) :
    RoomSafe s t where
  lock _ powered := by cases off.symm.trans powered
  queues hs _ := ⟨prompt hs, fun powered => by cases off.symm.trans powered⟩

/-- R94: in STARTING the lock is LOCKED and nothing waits. -/
theorem of_starting {s t : State} (starting : t.power.phase ≠ .running) (prompt : Prompt s → Prompt t)
    (locked : t.power.mainSupply = true → LockedWithoutGuest s → t.lock.state = .locked)
    (empty : t.power.mainSupply = true → QueuesAdmitted s → NoneQueued t) : RoomSafe s t where
  lock hs powered := ⟨fun _ => locked powered hs, fun _ => locked powered hs⟩
  queues hp hs := ⟨prompt hp, fun powered => ⟨fun run => absurd run starting, fun _ => empty powered hs⟩⟩

end RoomSafe

/-! ### The supplies, the starts and the installation read -/

/-- R94, R124, R174: a start closes the lock and discards the queues. -/
theorem makeStart_safe {s u : State} (model : u.model = s.model) : RoomSafe s (makeStart u) := by
  refine .of_starting ?_ (fun ⟨_, later, _⟩ => ⟨rfl, ?_, rfl, rfl⟩) (fun _ _ => rfl) fun _ _ => ⟨rfl, rfl⟩
  · show (if u.power.valid then Phase.reading else .coldWrites) ≠ .running
    split <;> decide
  · show ∀ c ∈ u.model.choices, c.later = []
    rwa [model]

theorem execStandbySupplyLoss_safe {s t : State} (h : execStandbySupplyLoss s = .next t) : RoomSafe s t := by
  cases h
  dsimp only
  split
  · rename_i lost
    simp only [Bool.and_eq_true, Bool.not_eq_true'] at lost
    exact .of_unpowered lost.2 id
  · exact RoomKept.safe (.of_same rfl rfl)

theorem execMainSupplyLoss_safe {s t : State} (h : execMainSupplyLoss s = .next t) : RoomSafe s t := by
  cases h
  dsimp only
  split <;> exact .of_unpowered rfl id

theorem execColdStartWritesEnd_safe {s t : State} (h : execColdStartWritesEnd s = .next t) : RoomSafe s t := by
  cases h
  split
  · rename_i writes
    have phase : s.power.phase = .coldWrites := by simpa using (Bool.and_eq_true_iff.mp writes).2
    have starting : s.power.phase ≠ .running := by rw [phase]; decide
    exact .of_starting Phase.noConfusion id (fun powered hs => (hs powered).2 starting)
      fun powered hs => (hs powered).2 starting
  · exact .refl s

/-- R96, R120: the start-up completion finds the lock LOCKED and nothing waiting, and evaluates the membership. -/
theorem execInstallationReadEnd_safe (memory : List Byte) {s t : State}
    (h : execInstallationReadEnd memory s = .next t) : RoomSafe s t := by
  cases h
  split
  · rename_i reading
    have phase : s.power.phase = .reading := by simpa using (Bool.and_eq_true_iff.mp reading).2
    have starting : s.power.phase ≠ .running := by rw [phase]; decide
    have kept := startUpCompletion_roomKept (evalShed (readEnded memory s))
    have run : (startUpCompletion (evalShed (readEnded memory s))).power.phase = .running := kept.phase
    refine ⟨fun hs => kept.lockedWithoutGuest fun powered => ?_,
      fun prompt hs => ⟨kept.prompt prompt, fun powered => ⟨fun _ => ?_, absurd run⟩⟩⟩
    · have locked : s.lock.state = .locked := (hs powered).2 starting
      exact ⟨fun _ => locked, fun _ => locked⟩
    · have none : NoneQueued s := (hs (kept.mainSupply ▸ powered)).2 starting
      have waiting : NoneQueued (evalShed (readEnded memory s)) := none
      exact startUpCompletion_current waiting.pass
  · exact .refl s

/-! ### Every command, every step -/

theorem exec_roomSafe (c : Instr) {s t : State} (h : exec c s = .next t) : RoomSafe s t := by
  cases c with
  | powerUp =>
    cases h
    dsimp only
    split
    · exact .refl s
    · exact makeStart_safe rfl
  | resetHeldLow => cases h; exact RoomKept.safe (.of_same rfl rfl)
  | resetRelease =>
    cases h
    dsimp only
    split
    · exact makeStart_safe rfl
    · exact RoomKept.safe (.of_same rfl rfl)
  | standbySupplyLoss => exact execStandbySupplyLoss_safe h
  | mainSupplyLoss => exact execMainSupplyLoss_safe h
  | coldStartWritesEnd => exact execColdStartWritesEnd_safe h
  | installationReadEnd memory => exact execInstallationReadEnd_safe memory h
  | feedUnitArrival bytes =>
    have unitless (i : FeedInterface) : RoomKept s { s with merge := { s.merge with feedIf := i } } :=
      .of_same rfl rfl
    cases h
    split
    · split
      · exact ((unitless _).trans (offerFeed_roomKept ..)).safe
      · exact (unitless _).safe
    · exact .refl s
  | feedInterfaceDiscard why => cases h; split <;> exact RoomKept.safe (.of_same rfl rfl)
  | localInsertByte byte => cases h; split <;> exact RoomKept.safe (.of_same rfl rfl)
  | mediaUnit =>
    refine RoomKept.safe ?_
    by_cases taken : ∃ q, FeedTakes s .media q
    · obtain ⟨q, taken⟩ := taken
      cases (exec_mediaUnit_of_taken taken).symm.trans h
      have run : s.power.phase = .running := (commitsDue_untouched s).power ▸
        ((running_iff _).mp (running_afterFeed taken)).2.2
      exact ((tookFeed_roomKept s).trans (classifyMedia_roomKept _ _ run)).trans (commitsDue_roomKept _)
    · cases (exec_mediaUnit_of_not_taken fun q h => taken ⟨q, h⟩).symm.trans h
      exact .refl s
  | discardedFeedUnit => cases h; exact (onFeed_roomKept _ (fun _ s _ => .refl s) s).safe
  | directiveIgnored => cases h; exact (onFeed_roomKept _ (fun _ s _ => .refl s) s).safe
  | timeMark =>
    cases h
    refine (onFeed_roomKept _ (fun u s run => ?_) s).safe
    split
    · exact adoptTime_roomKept _ (Bool.and_eq_true_iff.mp run).1
    · exact .of_same rfl rfl
  | keyUnit =>
    cases h
    exact (onFeed_roomKept _ (fun _ s _ => RoomKept.foldl takeEntry takeEntry_roomKept _ s) s).safe
  | tableOpen =>
    cases h
    exact (onDirective_roomKept _ _ (fun _ _ =>
      withMachine_roomKept (.inr (openTable_active ..)) (.inl (openTable_commitDue ..))) s).safe
  | tableRows =>
    cases h
    exact (onDirective_roomKept _ _ (fun _ _ =>
      withMachine_roomKept (.inr (rowsInto_active ..)) (.inl (rowsInto_commitDue ..))) s).safe
  | tableClose =>
    cases h
    exact (onDirective_roomKept _ _ (fun _ _ =>
      withMachine_roomKept (.inr (closeTable_active ..)) (.inl (closeTable_commitDue ..))) s).safe
  | checkCompletion table => exact (execCheckCompletion_roomKept table h).safe
  | tableActivation table =>
    cases h
    split
    · exact (decideCommit_roomKept table (usedChoice_roomKept s)).safe
    · exact .refl s
  | tableCommit table =>
    cases h
    split
    · exact (commitIfDue_roomKept ..).safe
    · exact .refl s
  | roomRecord =>
    cases h
    refine (onDirective_roomKept _ _ (fun x s => ?_) s).safe
    split
    · exact takeActive_roomKept ..
    · exact .of_same rfl rfl
  | tenancyChange =>
    cases h
    refine (onDirective_roomKept _ _ (fun x s => ?_) s).safe
    split
    · exact .refl s
    · exact beginClosing_roomKept s
  | completionTimeout =>
    cases h
    split
    · exact ((paid_roomKept .tenancy s).trans (completeTenancy_roomKept _)).safe
    · exact .refl s
  | lockReset =>
    cases h
    exact (onDirective_roomKept _ _ (fun _ s => (closeLock_roomKept s).trans (setFailures_roomKept ..)) s).safe
  | purchaseVoid => cases h; exact (onDirective_roomKept _ _ voidFilm_roomKept s).safe
  | billingReceipt => cases h; exact (onDirective_roomKept _ _ receive_roomKept s).safe
  | billingPoll =>
    cases h
    exact (onDirective_roomKept (act := poll) _ _ (fun _ _ => .of_same rfl rfl) s).safe
  | emergencyOn => cases h; exact (onDirective_roomKept _ _ beginEmergency_roomKept s).safe
  | emergencyOff => cases h; exact (onDirective_roomKept _ _ (fun _ s => endEmergency_roomKept s) s).safe
  | refusedUnit => cases h; exact (onLocal_roomKept _ (fun _ _ _ => pushResult_roomKept ..) s).safe
  | unknownCommand => cases h; exact (onLocal_roomKept _ (fun _ _ _ => pushResult_roomKept ..) s).safe
  | select => cases h; exact (onCommand_roomKept _ _ (fun x s _ => selectLabel_roomKept x s) s).safe
  | purchase => cases h; exact (onCommand_roomKept _ _ (fun label s _ => buy_roomKept label s) s).safe
  | pinEntry =>
    cases h
    exact (onCommand_roomKept _ _
      (fun digits _ run => enterPin_roomKept digits ((running_iff _).mp run).2.2) s).safe
  | relock => cases h; exact (onCommand_roomKept _ _ (fun _ s _ => relockNow_roomKept s) s).safe
  | query => cases h; exact (onCommand_roomKept _ _ (fun _ s _ => .refl s) s).safe
  | alertSetup => cases h; exact (onCommand_roomKept _ _ (fun _ _ _ => .of_same rfl rfl) s).safe
  | alertClear => cases h; exact (onCommand_roomKept _ _ (fun _ _ _ => .of_same rfl rfl) s).safe
  | secondEvent =>
    cases h
    split
    · rename_i hlive
      exact (secondEvent_roomKept hlive).safe
    · exact .refl s
  | sessionExpiry =>
    cases h
    split
    · exact ((paid_roomKept .lock s).trans (lockEvent_roomKept _)).safe
    · exact .refl s
  | lockoutExpiry =>
    cases h
    split
    · exact ((paid_roomKept .lock s).trans (lockEvent_roomKept _)).safe
    · exact .refl s
  | graceUsedUp =>
    cases h
    split
    · exact (payMeter_roomKept s).safe
    · exact .refl s
  | graceLapse =>
    cases h
    split
    · exact (payMeter_roomKept s).safe
    · exact .refl s
  | stepRemainingEnd =>
    cases h
    split
    · exact (payMeter_roomKept s).safe
    · exact .refl s
  | resultUnitBegin ready => cases h; exact ((sampleReturn_roomKept ready s).trans (beginResult_roomKept _)).safe
  | resultUnitEnd ready => cases h; exact ((sampleReturn_roomKept ready s).trans (endResult_roomKept _)).safe
  | billingUnitBegin ready => cases h; exact ((sampleReturn_roomKept ready s).trans (beginBilling_roomKept _)).safe
  | billingUnitEnd ready => cases h; exact ((sampleReturn_roomKept ready s).trans (endBilling_roomKept _)).safe
  | outputUnitBegin o ready => cases h; exact (withOutput_roomKept o (Output.beginUnit_queue ..)).safe
  | outputUnitEnd o ready =>
    cases h
    exact (withOutput_roomKept o (out := (output s o).endUnit (live s) ready) (.refl _)).safe

theorem step_roomSafe {s t : State} (h : step s = .next t) : RoomSafe s t := by
  cases queue : s.pending with
  | nil =>
    cases (step_nil queue).symm.trans h
    exact (tick_roomKept s).safe
  | cons c rest =>
    have queued : RoomSafe s { s with pending := rest } := RoomKept.safe (.of_same rfl rfl)
    have done := exec_roomSafe c ((step_cons queue).symm.trans h)
    refine ⟨done.lock ∘ queued.lock, fun prompt hs => ?_⟩
    obtain ⟨prompt, hs⟩ := queued.queues prompt hs
    exact done.queues prompt hs

end Sys2Proof.Machine

/-- Settles O56: whatever takes a right away purges the queues, and the Lock Unit purges them where the window
membership crosses an edge. -/
theorem stepKeepsQueuesAdmitted : Obligations.StepKeepsQueuesAdmitted :=
  fun _ _ prompt hs h => (Sys2Proof.Machine.step_roomSafe h).queues prompt hs

/-- Settles O58: the lock opens and locks out with a guest alone, and closes with the stay. -/
theorem stepKeepsTheLockClosedWithoutGuest : Obligations.StepKeepsTheLockClosedWithoutGuest :=
  fun _ _ hs h => (Sys2Proof.Machine.step_roomSafe h).lock hs
end

section
/-!
The content lock's window and commands (O20, O33, O34, O35).
-/
namespace Sys2Proof.Machine

/-! ### The adult window (R111) -/

theorem insideWindow_of_unset (w : Window) : insideWindow none w = false := rfl

/-- R111: a window within the day. -/
theorem insideWindow_of_lt {w : Window} (h : w.opens < w.closes) (t : BuildingTime) :
    insideWindow (some t) w = true ↔ w.opens ≤ t.second ∧ t.second < w.closes := by
  simp [insideWindow, Window.contains, h]

/-- R111: a window that spans midnight. -/
theorem insideWindow_of_gt {w : Window} (h : w.closes < w.opens) (t : BuildingTime) :
    insideWindow (some t) w = true ↔ w.opens ≤ t.second ∨ t.second < w.closes := by
  simp [insideWindow, Window.contains, h.not_gt]

/-! ### The checks of PIN ENTRY (R114) -/

theorem exec_pinEntry_of_taken {s : State} {q : StampedUnit} {digits : Pin}
    (taken : LocalTakes s (.command .pinEntry) q) (operands : readPinEntry q.unit.payload = some digits)
    {code : ResultCode} {u : State} (reply : enterPin digits (afterLocal s) = (u, code, [])) :
    exec .pinEntry s = .next (answered q code [] u) := by
  refine congrArg Host.Outcome.next ((onCommand_of_taken taken operands enterPin).trans ?_)
  rw [reply]

section
variable {s : State} (digits : Pin) {g : RoomRecord} {pin : Pin}

theorem enterPin_of_closing (h : s.ret.tenancy = .closing) : enterPin digits s = (s, .closing, []) := by
  simp only [enterPin, h]

theorem enterPin_of_vacant (h : s.ret.tenancy = .vacant) : enterPin digits s = (s, .vacant, []) := by
  simp only [enterPin, h]

variable (occupied : s.ret.tenancy = .occupied) (active : s.ret.active = some g)
include occupied active

theorem enterPin_of_barred (mode : g.lockMode = .barred) : enterPin digits s = (s, .barred, []) := by
  simp only [enterPin, occupied, guest_of_occupied occupied active, mode, if_true]

theorem enterPin_of_no_pin (mode : g.lockMode ≠ .barred) (none : g.pin = none) :
    enterPin digits s = (s, .noPin, []) := by
  simp only [enterPin, occupied, guest_of_occupied occupied active, if_neg mode, none]

theorem enterPin_of_off (mode : g.lockMode = .off) (given : g.pin = some pin) :
    enterPin digits s = (s, .done, []) := by
  simp only [enterPin, occupied, guest_of_occupied occupied active, mode, given, reduceCtorEq, if_true, if_false]

/-- R114: with the lock mode PIN and a PIN in the record the lock state decides. -/
theorem enterPin_of_mode (mode : g.lockMode = .pin) (given : g.pin = some pin) : enterPin digits s =
    if s.lock.state.isLockout then (s, .lockedOut, [])
    else if digits = pin then (setFailures 0 (openSession g.session s), .done, [])
    else (wrongPin s, .wrongPin, []) := by
  simp only [enterPin, occupied, guest_of_occupied occupied active, mode, given, reduceCtorEq, if_false]

end

theorem isLockout_eq_false {state : LockState} (h : ∀ e, state ≠ .lockout e) : state.isLockout = false :=
  Bool.eq_false_iff.mpr fun lockout => by
    obtain ⟨e, same⟩ := (isLockout_iff state).mp lockout
    exact h e same

/-! ### The comparison (R115, R116) -/

theorem wrongPin_of_counted {s : State} (locked : s.lock.state = .locked) (few : s.ret.failures < 2) :
    wrongPin s = setFailures (s.ret.failures + 1) s := by
  simp only [wrongPin, locked, if_pos few]

/-- R115: the third wrong PIN in a row. -/
theorem wrongPin_of_third {s : State} (locked : s.lock.state = .locked) (third : s.ret.failures = 2) :
    wrongPin s = setFailures 0 (enterLockout s) := by
  simp only [wrongPin, locked, third, lt_irrefl, if_false]

/-- R116: a wrong PIN ends the open session. -/
theorem wrongPin_of_unlocked {s : State} {e : Word32} (unlocked : s.lock.state = .unlocked e) :
    wrongPin s = setFailures (s.ret.failures + 1) (leaveUnlocked s) := by
  simp only [wrongPin, unlocked]

/-! ### RELOCK and LOCK RESET (R117, R118) -/

theorem exec_relock_of_taken {s : State} {q : StampedUnit} (taken : LocalTakes s (.command .relock) q)
    (operands : readRelock q.unit.payload = some ()) :
    exec .relock s = .next (answered q .done [] (relockNow (afterLocal s))) :=
  congrArg Host.Outcome.next (onCommand_of_taken taken operands _)

theorem exec_lockReset_of_taken {s : State} {q : StampedUnit} (taken : FeedTakes s .lockReset q)
    (operands : readNoBody q.unit.payload = some ()) :
    exec .lockReset s = .next (setFailures 0 (closeLock (afterFeed s))) :=
  congrArg Host.Outcome.next (onDirective_of_taken taken operands _)

theorem relockNow_of_unlocked {s : State} {e : Word32} (h : s.lock.state = .unlocked e) :
    relockNow s = leaveUnlocked s := by
  simp only [relockNow, h]

theorem relockNow_of_not_unlocked {s : State} (h : ∀ e, s.lock.state ≠ .unlocked e) : relockNow s = s := by
  unfold relockNow
  split
  · rename_i e unlocked
    exact absurd unlocked (h e)
  · rfl
  · rfl

theorem closeLock_of_unlocked {s : State} {e : Word32} (h : s.lock.state = .unlocked e) :
    closeLock s = leaveUnlocked s := by
  simp only [closeLock, h]

theorem closeLock_of_lockout {s : State} {e : Word32} (h : s.lock.state = .lockout e) :
    closeLock s = { s with lock := { s.lock with state := .locked } } := by
  simp only [closeLock, h]

theorem closeLock_of_locked {s : State} (h : s.lock.state = .locked) : closeLock s = s := by
  simp only [closeLock, h]

end Sys2Proof.Machine

open Sys2Proof.Machine in
/-- Settles O20: by the order of the two edges of the window. -/
theorem adultWindowContains : Obligations.AdultWindowContains := fun w _ =>
  ⟨insideWindow_of_unset w, fun t => ⟨fun h => insideWindow_of_lt h t, fun h => insideWindow_of_gt h t⟩⟩

open Sys2Proof.Machine in
/-- Settles O33: the checks in the order in which PIN ENTRY makes them. -/
theorem pinEntryIsRefusedInOrder : Obligations.PinEntryIsRefusedInOrder := by
  intro s q digits taken operands p refused
  have answers {code : ResultCode} (reply : enterPin digits p = (p, code, [])) : refused code :=
    exec_pinEntry_of_taken taken operands reply
  refine ⟨fun closing => answers (enterPin_of_closing digits closing),
    fun vacant => answers (enterPin_of_vacant digits vacant), fun g occupied active => ⟨fun barred => ?_,
      fun open' none => ?_, fun off given => ?_, fun e mode given lockout => ?_⟩⟩
  · exact answers (enterPin_of_barred digits occupied active barred)
  · exact answers (enterPin_of_no_pin digits occupied active open' none)
  · obtain ⟨pin, given⟩ := Option.ne_none_iff_exists'.mp given
    exact answers (enterPin_of_off digits occupied active off given)
  · obtain ⟨pin, given⟩ := Option.ne_none_iff_exists'.mp given
    refine answers ((enterPin_of_mode digits occupied active mode given).trans (if_pos ?_))
    exact (isLockout_iff _).mpr ⟨e, lockout⟩

open Sys2Proof.Machine in
/-- Settles O34: past the checks the digits are compared, and a wrong PIN is taken by the lock state. -/
theorem pinEntryComparesThePin : Obligations.PinEntryComparesThePin := by
  intro s q digits pin g taken operands p occupied active mode given
  have compared (free : ∀ e, p.lock.state ≠ .lockout e) : enterPin digits p =
      if digits = pin then (setFailures 0 (openSession g.session p), .done, [])
      else (wrongPin p, .wrongPin, []) := by
    rw [enterPin_of_mode digits occupied active mode given, isLockout_eq_false free]
    rfl
  have wrong (free : ∀ e, p.lock.state ≠ .lockout e) (differ : digits ≠ pin) :
      exec .pinEntry s = .next (answered q .wrongPin [] (wrongPin p)) :=
    exec_pinEntry_of_taken taken operands ((compared free).trans (if_neg differ))
  refine ⟨fun free same => ?correct, fun locked differ few => ?counted, fun locked differ third => ?third,
    fun e unlocked differ => ?session⟩
  case correct => exact exec_pinEntry_of_taken taken operands ((compared free).trans (if_pos same))
  case counted => rw [wrong (by simp [locked]) differ, wrongPin_of_counted locked few]; rfl
  case third => rw [wrong (by simp [locked]) differ, wrongPin_of_third locked third]; rfl
  case session => rw [wrong (by simp [unlocked]) differ, wrongPin_of_unlocked unlocked]; rfl

open Sys2Proof.Machine in
/-- Settles O35: both commands by the state in which they find the lock. -/
theorem relockAndLockResetCloseTheLock : Obligations.RelockAndLockResetCloseTheLock := by
  intro s q closed cleared
  refine ⟨fun taken operands => ⟨fun e unlocked => ?_, fun other => ?_⟩,
    fun taken operands => ⟨fun e unlocked => ?_, fun e lockout => ?_, fun locked => ?_⟩⟩
  · rw [exec_relock_of_taken taken operands, relockNow_of_unlocked unlocked]
    rfl
  · rw [exec_relock_of_taken taken operands, relockNow_of_not_unlocked other]
  · rw [exec_lockReset_of_taken taken operands, closeLock_of_unlocked unlocked]
    rfl
  · rw [exec_lockReset_of_taken taken operands, closeLock_of_lockout lockout]
    rfl
  · rw [exec_lockReset_of_taken taken operands, closeLock_of_locked locked]
    rfl
end

section
/-!
What the events of the part do to the Purchase Table and the Billing Queue: most leave both alone (`ledger`), and
the others keep the reservation of places and the distinct purchases (`LedgerKept`).
-/
namespace Sys2Proof.Machine

/-! ### The Purchase Table and the Billing Queue (R125, R127, R139) -/

/-- R125, R127, R139, R150: the validity word, the live purchases with their counter, the records with theirs. -/
def ledger (s : State) :=
  (s.power.valid, s.ret.purchases, s.ret.nextPurchase, s.ret.records, s.ret.nextSerial)

theorem ledger_congr {s t : State} (power : t.power = s.power) (ret : t.ret = s.ret) : ledger t = ledger s := by
  simp only [ledger, power, ret]

theorem ledger_foldl {α : Type} (f : State → α → State) (hf : ∀ s a, ledger (f s a) = ledger s) :
    ∀ (l : List α) (s : State), ledger (l.foldl f s) = ledger s
  | [], _ => rfl
  | a :: l, s => (ledger_foldl f hf l (f s a)).trans (hf s a)

/-- R125, R127, R139: from `s` to `t` the reservation of places and the distinct purchases are kept. -/
structure LedgerKept (s t : State) : Prop where
  reservation : ReservationKept s → ReservationKept t
  distinct : PurchasesDistinct s → PurchasesDistinct t

namespace LedgerKept

theorem refl (s : State) : LedgerKept s s := ⟨id, id⟩

theorem trans {s t u : State} (h : LedgerKept s t) (k : LedgerKept t u) : LedgerKept s u :=
  ⟨k.reservation ∘ h.reservation, k.distinct ∘ h.distinct⟩

theorem foldl {α : Type} (f : State → α → State) (hf : ∀ s a, LedgerKept s (f s a)) :
    ∀ (l : List α) (s : State), LedgerKept s (l.foldl f s)
  | [], s => .refl s
  | a :: l, s => (hf s a).trans (LedgerKept.foldl f hf l (f s a))

/-- R91: of an area that is not whole nothing is promised. -/
theorem of_lost {s t : State} (lost : t.power.valid = false) : LedgerKept s t :=
  have unwhole : t.power.valid ≠ true := by simp [lost]
  ⟨fun _ => (absurd · unwhole), fun _ => (absurd · unwhole)⟩

/-- R125, R127, R139: purchases leave the table, or change but for their films and numbers, and no place that was
reserved is lost. -/
theorem of_sublist {s t : State} (valid : t.power.valid = s.power.valid)
    (counter : t.ret.nextPurchase = s.ret.nextPurchase)
    (films : (t.ret.purchases.map (·.film)).Sublist (s.ret.purchases.map (·.film)))
    (numbers : (t.ret.purchases.map (·.number)).Sublist (s.ret.purchases.map (·.number)))
    (places : s.ret.records.length + s.ret.purchases.length ≤ 32 →
      t.ret.records.length + t.ret.purchases.length ≤ 32) : LedgerKept s t := by
  refine ⟨fun hs whole => places (hs (valid ▸ whole)), fun hs whole => ?_⟩
  obtain ⟨few, filmsDistinct, numbersDistinct, free⟩ := hs (valid ▸ whole)
  have fewer := films.length_le
  simp only [List.length_map] at fewer
  exact ⟨fewer.trans few, filmsDistinct.sublist films, numbersDistinct.sublist numbers,
    fun held => free (numbers.subset (counter ▸ held))⟩

theorem of_ledger {s t : State} (h : ledger t = ledger s) : LedgerKept s t := by
  simp only [ledger, Prod.mk.injEq] at h
  obtain ⟨valid, purchases, counter, records, -⟩ := h
  refine of_sublist valid counter ?_ ?_ (by rw [purchases, records]; exact id) <;> rw [purchases]

end LedgerKept

/-! ### The ends of purchases (R143) -/

theorem endPurchase_ledgerKept (n : Nat) (reason : EndReason) (s : State) :
    LedgerKept s (endPurchase n reason s) := by
  cases live : purchaseOf s n with
  | none =>
    rw [endPurchase, live]
    exact .refl s
  | some p =>
    have place := eraseP_number_length live
    have left := List.eraseP_sublist (p := fun q : Purchase => q.number == n) (l := s.ret.purchases)
    rw [endPurchase_of_live live]
    refine .of_sublist rfl rfl (left.map _) (left.map _) fun reserved => ?_
    show (s.ret.records ++ [_]).length + (s.ret.purchases.eraseP fun q => q.number == n).length ≤ 32
    rw [List.length_append, List.length_singleton]
    omega

theorem endAll_ledgerKept (reason : EndReason) (s : State) : LedgerKept s (endAll reason s) :=
  LedgerKept.foldl _ (fun s n => endPurchase_ledgerKept n reason s) _ s

theorem voidFilm_ledgerKept (film : Nat) (s : State) : LedgerKept s (voidFilm film s) := by
  unfold voidFilm
  split
  · exact endPurchase_ledgerKept ..
  · exact .refl s

/-! ### The charge of a repetition (R137, R138) -/

theorem chargeFate_eq_free_iff (s : State) (amount : Nat) : chargeFate s amount = .free ↔ amount = 0 := by
  unfold chargeFate
  split_ifs <;> simp_all

theorem chargeFate_eq_overLimit_iff (s : State) (amount : Nat) : chargeFate s amount = .overLimit ↔
    0 < amount ∧ allowance s < amount := by
  unfold chargeFate
  split_ifs <;> simp <;> omega

theorem chargeFate_eq_noPlace_iff (s : State) (amount : Nat) : chargeFate s amount = .noPlace ↔
    0 < amount ∧ amount ≤ allowance s ∧ 32 < s.ret.records.length + s.ret.purchases.length + 1 := by
  unfold chargeFate
  split_ifs <;> simp <;> omega

theorem chargeFate_eq_posted_iff (s : State) (amount : Nat) : chargeFate s amount = .posted ↔
    0 < amount ∧ amount ≤ allowance s ∧ s.ret.records.length + s.ret.purchases.length + 1 ≤ 32 := by
  unfold chargeFate
  split_ifs <;> simp <;> omega

/-- R134, R135: a purchase changes in its place, but for its film and number. -/
theorem LedgerKept.of_changed {s t : State} {n : Nat} {f : Purchase → Purchase}
    (valid : t.power.valid = s.power.valid) (counter : t.ret.nextPurchase = s.ret.nextPurchase)
    (changed : t.ret.purchases = changePurchase n f s.ret.purchases)
    (film : ∀ p, (f p).film = p.film) (number : ∀ p, (f p).number = p.number)
    (places : s.ret.records.length + s.ret.purchases.length ≤ 32 →
      t.ret.records.length + s.ret.purchases.length ≤ 32) : LedgerKept s t := by
  refine .of_sublist valid counter ?_ ?_ ?_ <;> rw [changed]
  · rw [changePurchase_map n f _ film]
  · rw [changePurchase_map n f _ number]
  · rwa [changePurchase_length]

theorem beginRepetition_ledgerKept (n position k : Nat) (s : State) :
    LedgerKept s (beginRepetition n position k s) := by
  rcases beginRepetition_cases n position k s with
    ⟨_, e⟩ | ⟨_, _, ⟨_, e⟩ | ⟨_, e⟩ | ⟨_, e⟩ | ⟨posted, e⟩⟩ <;> rw [e]
  · exact .refl s
  · exact .of_changed rfl rfl rfl (fun _ => rfl) (fun _ => rfl) id
  · exact endPurchase_ledgerKept ..
  · exact endPurchase_ledgerKept ..
  · obtain ⟨-, -, place⟩ := (chargeFate_eq_posted_iff s _).mp posted
    refine .of_changed rfl rfl rfl (fun _ => rfl) (fun _ => rfl) fun _ => ?_
    show (s.ret.records ++ [_]).length + s.ret.purchases.length ≤ 32
    rw [List.length_append, List.length_singleton]
    omega

/-! ### The second event (R133 to R136) -/

theorem meterPurchase_ledgerKept (n : Nat) (viewed : Bool) (s : State) :
    LedgerKept s (meterPurchase n viewed s) := by
  rcases meterPurchase_cases n viewed s with e | ⟨_, e⟩ | ⟨_, _, e⟩ | ⟨_, e⟩ <;> rw [e]
  · exact .refl s
  · exact .of_changed rfl rfl rfl (fun _ => rfl) (fun _ => rfl) id
  · exact beginRepetition_ledgerKept ..
  · exact endPurchase_ledgerKept ..

theorem evalBillingDay_ledger (s : State) : ledger (evalBillingDay s) = ledger s := by
  obtain ⟨_, _, e, _⟩ := evalBillingDay_ret s
  rw [e]
  rfl

theorem meterAll_ledgerKept (s0 s : State) : LedgerKept s (meterAll s0 s) :=
  LedgerKept.foldl (fun (s : State) (p : Purchase) => meterPurchase p.number (isViewed s0 p.film) s)
    (fun s p => meterPurchase_ledgerKept p.number _ s) s0.ret.purchases s

theorem meterSecond_ledgerKept (s : State) : LedgerKept s (meterSecond s) := by
  have evaluated : LedgerKept s (evalBillingDay s) := .of_ledger (evalBillingDay_ledger s)
  cases hrun : running s with
  | false =>
    rw [meterSecond_of_not_running hrun]
    exact .refl s
  | true =>
    by_cases free : s.emergency = none
    · rw [meterSecond_of_no_override hrun free]
      exact (evaluated.trans (meterAll_ledgerKept _ _)).trans (.of_ledger rfl)
    · rw [meterSecond_of_override hrun free]
      exact evaluated.trans (.of_ledger rfl)

theorem payMeter_ledgerKept (s : State) : LedgerKept s (payMeter s) :=
  LedgerKept.trans (t := paid .meter s) (.of_ledger rfl) (meterSecond_ledgerKept _)

/-! ### A purchase more (R125, R127 to R130) -/

/-- R128: what the checks of PURCHASE promise of the table and of the queue. -/
theorem room_of_filmRefusal_none {s : State} {r : ServiceRow} (passed : filmRefusal s r = none) :
    isBought s r.film = false ∧ s.ret.purchases.length < 8
      ∧ s.ret.records.length + s.ret.purchases.length + 1 ≤ 32 := by
  unfold filmRefusal at passed
  split at passed
  · cases passed
  · split at passed
    · cases passed
    · rename_i fresh
      split at passed
      · cases passed
      · split_ifs at passed with full places
        exact ⟨Bool.eq_false_iff.mpr fresh, Nat.lt_of_not_le full, Nat.le_of_not_lt places⟩

/-- R125, R127: the purchase takes the counter's number, and the counter advances past every live one. -/
theorem addPurchase_ledgerKept {p : Purchase} {s : State} (number : p.number = s.ret.nextPurchase)
    (fresh : isBought s p.film = false) (room : s.ret.purchases.length < 8)
    (place : s.ret.records.length + s.ret.purchases.length + 1 ≤ 32) : LedgerKept s (addPurchase p s) := by
  rw [addPurchase_eq]
  refine ⟨fun _ _ => ?_, fun hs whole => ?_⟩
  · simp only [List.length_append, List.length_singleton]
    omega
  · obtain ⟨-, films, numbers, free⟩ := hs whole
    have unbought : ∀ q ∈ s.ret.purchases, q.film ≠ p.film := by simpa [isBought] using fresh
    have unheld : p.number ∉ s.ret.purchases.map (·.number) := number ▸ free
    have short : (s.ret.purchases.map (·.number) ++ [p.number]).length < 255 := by
      simp only [List.length_append, List.length_map, List.length_singleton]
      omega
    obtain ⟨_, -, -, next, -⟩ := counterAfter_spec short p.number
    simp only [List.length_append, List.length_singleton, List.map_append, List.map_singleton]
    refine ⟨room, ?_, ?_, next⟩
    · refine films.append (List.nodup_singleton _) (List.disjoint_singleton.mpr fun bought => ?_)
      obtain ⟨q, mem, film⟩ := List.mem_map.mp bought
      exact unbought q mem film
    · exact numbers.append (List.nodup_singleton _) (List.disjoint_singleton.mpr unheld)

theorem acceptPurchase_ledgerKept {r : ServiceRow} {s : State} (passed : filmRefusal s r = none) :
    LedgerKept s (acceptPurchase r s) := by
  obtain ⟨fresh, room, place⟩ := room_of_filmRefusal_none passed
  have added : LedgerKept s (addPurchase (newPurchase s r) s) := addPurchase_ledgerKept rfl fresh room place
  by_cases grace : r.grace = 0
  · rw [acceptPurchase_of_no_grace grace]
    exact added.trans (beginRepetition_ledgerKept ..)
  · rw [acceptPurchase_of_grace grace]
    exact added

theorem buyFilm_ledgerKept (label : Nat) (s : State) : LedgerKept s (buyFilm label s).1 := by
  unfold buyFilm
  split
  · exact .refl s
  · split
    · exact .refl s
    · rename_i passed
      exact acceptPurchase_ledgerKept passed

theorem buy_ledgerKept (label : Nat) (s : State) : LedgerKept s (buy label s).1 := by
  have evaluated : LedgerKept s (evalBillingDay s) := .of_ledger (evalBillingDay_ledger s)
  unfold buy
  split_ifs
  · exact .refl s
  · exact .refl s
  · exact .refl s
  · exact .refl s
  · exact evaluated.trans (buyFilm_ledgerKept label _)

/-! ### The Lock Unit, the Table Loader and the Tenancy Unit -/

theorem ByLock.ledger {s t : State} (h : ByLock s t) : ledger t = ledger s := by
  rw [h]
  rfl

theorem ByLoader.ledger {s t : State} (h : ByLoader s t) : ledger t = ledger s := by
  rw [h]
  rfl

theorem closeLock_ledger (s : State) : ledger (closeLock s) = ledger s := by
  rcases closeLock_cases s with ⟨_, e⟩ | ⟨_, _, e⟩ | ⟨_, _, e⟩ <;> rw [e] <;> rfl

theorem commitIfDue_ledger (tb : Table) (s : State) : ledger (commitIfDue tb s) = ledger s := by
  unfold commitIfDue
  split
  · exact (commit_byLoader tb s).ledger
  · rfl

theorem commitsDue_ledger (s : State) : ledger (commitsDue s) = ledger s :=
  (commitIfDue_ledger .tariff _).trans (commitIfDue_ledger .service s)

theorem decideCommit_ledger (later : Bool) (tb : Table) (s : State) :
    ledger (decideCommit later tb s) = ledger s := by
  unfold decideCommit
  split
  · rfl
  · exact (commit_byLoader tb s).ledger

theorem testCompletion_ledger (s : State) : ledger (testCompletion s) = ledger s := by
  rcases testCompletion_cases s with ⟨_, _, _, e⟩ | e <;> rw [e]
  rfl

theorem tenancySecond_ledger (s : State) : ledger (tenancySecond s) = ledger s := by
  rcases tenancySecond_cases s with e | e <;> rw [e]
  rfl

theorem startUpCompletion_ledgerKept (s : State) : LedgerKept s (startUpCompletion s) := by
  unfold startUpCompletion
  split
  · exact .of_ledger rfl
  · exact (endAll_ledgerKept .power s).trans (.of_ledger rfl)
  · exact .of_ledger rfl

theorem takeActive_ledger (r : RoomRecord) (s : State) : ledger (takeActive r s) = ledger s := by
  unfold takeActive
  split
  · rename_i old _
    split
    · obtain ⟨_, -, written, -, -⟩ := replaceActive_taken old r s
      simp only [ledger, written.ret, written.frame.power]
      rfl
    · rfl
  · rfl

theorem takeClosing_ledgerKept (c : Consumer) (s : State) : LedgerKept s (takeClosing c s) := by
  cases c with
  | meter => exact endAll_ledgerKept .tenancy s
  | keys => exact .of_ledger rfl
  | lock => exact .of_ledger (closeLock_ledger s)
  | gate => exact .of_ledger rfl
  | loader => exact .refl s
  | tenancy => exact .refl s

theorem beginClosing_ledgerKept (s : State) : LedgerKept s (beginClosing s) := by
  have entered : LedgerKept s (stayClosing s) := .of_ledger rfl
  have closed : LedgerKept (stayClosing s) (stayClosed s) :=
    LedgerKept.foldl _ (fun s c => takeClosing_ledgerKept c s) _ _
  rw [beginClosing_eq]
  exact (entered.trans closed).trans (.of_ledger (testCompletion_ledger _))

/-! ### The consumers of the events -/

/-- R47: the meter alone reaches the purchases and the records at a second event. -/
theorem takeSecond_ledger {c : Consumer} (other : c ≠ .meter) (s : State) :
    ledger (takeSecond c s) = ledger s := by
  cases c with
  | lock => exact (lockEvent_byLock s).ledger
  | meter => exact absurd rfl other
  | loader => exact (loaderEvent_byLoader s).ledger
  | tenancy => exact tenancySecond_ledger s
  | keys => rfl
  | gate => rfl

theorem takeSecond_ledgerKept (c : Consumer) (s : State) : LedgerKept s (takeSecond c s) := by
  by_cases meter : c = .meter
  · rw [meter]
    exact meterSecond_ledgerKept s
  · exact .of_ledger (takeSecond_ledger meter s)

theorem deliverSecond_ledgerKept (later : List Consumer) (c : Consumer) (s : State) :
    LedgerKept s (deliverSecond later c s) := by
  unfold deliverSecond
  split
  · exact .of_ledger rfl
  · exact takeSecond_ledgerKept c s

theorem settle_ledgerKept (s : State) : LedgerKept s (settle s) :=
  LedgerKept.trans (t := { s with model := { s.model with due := [] } }) (.of_ledger rfl)
    (LedgerKept.foldl _ (fun s c => takeSecond_ledgerKept c s) _ _)

theorem secondEvent_ledgerKept (s : State) : LedgerKept s (secondEvent s) := by
  unfold secondEvent
  refine (settle_ledgerKept s).trans
    (LedgerKept.trans ?_ (LedgerKept.foldl _ (fun s c => deliverSecond_ledgerKept _ c s) _ _))
  exact .of_ledger rfl

theorem takeStep_ledger (c : Consumer) (s : State) : ledger (takeStep c s) = ledger s := by
  cases c with
  | lock => exact (windowEvent_byLock s).ledger
  | meter => exact evalBillingDay_ledger s
  | loader => exact (loaderEvent_byLoader s).ledger
  | tenancy => rfl
  | keys => rfl
  | gate => rfl

theorem adoptTime_ledgerKept (t : BuildingTime) (s : State) : LedgerKept s (adoptTime t s) := by
  unfold adoptTime
  split
  · exact .refl s
  · refine (settle_ledgerKept s).trans (.of_ledger ?_)
    exact ledger_foldl _ (fun s c => takeStep_ledger c s) _ _

end Sys2Proof.Machine
end

section
/-!
The Classifier, the ports and the starts, and then every command (O54, O60).
-/
namespace Sys2Proof.Machine

/-! ### The Classifier and the parsers -/

theorem afterFeed_ledger (s : State) : ledger (afterFeed s) = ledger s := commitsDue_ledger s

theorem afterLocal_ledger (s : State) : ledger (afterLocal s) = ledger s := commitsDue_ledger s

theorem onFeed_ledgerKept (row : FeedRow) {act : CarriageUnit → State → State}
    (hact : ∀ u s, LedgerKept s (act u s)) (s : State) : LedgerKept s (onFeed row act s) := by
  by_cases taken : ∃ q, FeedTakes s row q
  · obtain ⟨q, taken⟩ := taken
    rw [onFeed_of_taken taken]
    exact (LedgerKept.of_ledger (afterFeed_ledger s)).trans (hact ..)
  · rw [onFeed_of_not_taken fun q h => taken ⟨q, h⟩]
    exact .refl s

theorem onDirective_ledgerKept {α : Type} (row : FeedRow) (read : List Byte → Option α)
    {act : α → State → State} (hact : ∀ x s, LedgerKept s (act x s)) (s : State) :
    LedgerKept s (onDirective row read act s) := by
  refine onFeed_ledgerKept row (fun u s => ?_) s
  split
  · exact hact ..
  · exact .of_ledger rfl

theorem onLocal_ledgerKept (row : LocalRow) {act : CarriageUnit → State → State}
    (hact : ∀ u s, LedgerKept s (act u s)) (s : State) : LedgerKept s (onLocal row act s) := by
  by_cases taken : ∃ q, LocalTakes s row q
  · obtain ⟨q, taken⟩ := taken
    rw [onLocal_of_taken taken]
    exact (LedgerKept.of_ledger (afterLocal_ledger s)).trans (hact ..)
  · rw [onLocal_of_not_taken fun q h => taken ⟨q, h⟩]
    exact .refl s

theorem onCommand_ledgerKept {α : Type} (kind : CommandKind) (read : List Byte → Option α)
    {act : α → State → Reply} (hact : ∀ x s, LedgerKept s (act x s).1) (s : State) :
    LedgerKept s (onCommand kind read act s) := by
  refine onLocal_ledgerKept _ (fun u s => ?_) s
  split
  · exact (hact ..).trans (.of_ledger rfl)
  · exact .of_ledger rfl

/-! ### The owners of the units taken -/

theorem takeEntry_ledger (s : State) (e : KeyEntry) : ledger (takeEntry s e) = ledger s := by
  unfold takeEntry
  split
  · rcases placeEntry_cases e s with ⟨_, _, placed⟩ | placed | placed <;> rw [placed] <;> rfl
  · rfl

theorem beginEmergency_ledger (label : Nat) (s : State) : ledger (beginEmergency label s) = ledger s := by
  unfold beginEmergency
  split_ifs <;> rfl

theorem endEmergency_ledger (s : State) : ledger (endEmergency s) = ledger s := by
  unfold endEmergency
  split <;> rfl

theorem selectLabel_ledger (x : OutputId × Nat) (s : State) : ledger (selectLabel x s).1 = ledger s := by
  unfold selectLabel
  split_ifs <;> rfl

theorem wrongPin_ledger (s : State) : ledger (wrongPin s) = ledger s := by
  unfold wrongPin
  split
  · rfl
  · split <;> rfl
  · rfl

theorem enterPin_ledger (digits : Pin) (s : State) : ledger (enterPin digits s).1 = ledger s := by
  unfold enterPin
  repeat' split
  all_goals first
    | rfl
    | exact wrongPin_ledger s

theorem relockNow_ledger (s : State) : ledger (relockNow s) = ledger s := by
  unfold relockNow
  split <;> rfl

theorem classifyMedia_ledger (u : CarriageUnit) (stamp : BitVec 24) (s : State) :
    ledger (classifyMedia u stamp s) = ledger s := by
  unfold classifyMedia
  dsimp only
  split_ifs <;> rfl

theorem offerFeed_ledger (u : CarriageUnit) (s : State) : ledger (offerFeed u s) = ledger s := by
  unfold offerFeed
  split <;> rfl

/-- R154: a receipt only frees places. -/
theorem receive_ledgerKept (serial : Nat) (s : State) : LedgerKept s (receive serial s) := by
  unfold receive
  split
  · have fewer := (newerThan_suffix serial s.ret.records).length_le
    have removed : LedgerKept s (removeThrough serial s) :=
      .of_sublist rfl rfl (.refl _) (.refl _) fun places => (Nat.add_le_add_right fewer _).trans places
    exact removed.trans (.of_ledger (testCompletion_ledger _))
  · exact .refl s

/-- R153: a mark takes no record from the queue. -/
theorem takeNotice_ledgerKept (serial : Nat) (s : State) : LedgerKept s (takeNotice serial s) := by
  unfold takeNotice
  split
  · refine LedgerKept.trans ?_ (.of_ledger (testCompletion_ledger _))
    refine .of_sublist rfl rfl (.refl _) (.refl _) fun places => ?_
    rwa [markOffered_length]
  · exact .refl s

/-! ### The ports out -/

theorem beginResult_ledger (s : State) : ledger (beginResult s) = ledger s := by
  unfold beginResult
  repeat' split
  all_goals rfl

theorem endResult_ledger (s : State) : ledger (endResult s) = ledger s := by
  unfold endResult
  repeat' split
  all_goals rfl

theorem beginBilling_ledger (s : State) : ledger (beginBilling s) = ledger s := by
  unfold beginBilling
  repeat' split
  all_goals rfl

theorem endBilling_ledgerKept (s : State) : LedgerKept s (endBilling s) := by
  unfold endBilling
  split
  · split
    · refine LedgerKept.trans ?_ (takeNotice_ledgerKept ..)
      exact .of_ledger rfl
    · exact .refl s
  · exact .refl s
  · exact .refl s

theorem tick_ledger (s : State) : ledger (tick s) = ledger s := ledger_congr (tick_power s) (tick_ret s)

theorem execCheckCompletion_ledger (tb : Table) {s u : State} (h : execCheckCompletion tb s = .next u) :
    ledger u = ledger s := by
  have decided (later : Bool) (m : TableMachine) :
      ledger (decideCommit later tb (usedChoice (withMachine tb m s))) = ledger s := decideCommit_ledger ..
  cases h
  dsimp only
  repeat' split
  all_goals first
    | rfl
    | exact decided ..

/-! ### The supplies, the starts and the installation read -/

/-- R158: a warm start keeps the purchases and the records, their marks apart. -/
theorem makeStart_ledgerKept {s u : State} (valid : u.power.valid = s.power.valid) (ret : u.ret = s.ret) :
    LedgerKept s (makeStart u) := by
  cases whole : s.power.valid with
  | false => exact .of_lost (valid.trans whole)
  | true =>
    have kept : (makeStart u).ret = s.ret.marksCleared := by
      rw [← ret]
      exact if_pos (valid.trans whole)
    refine .of_sublist valid ?_ ?_ ?_ fun places => ?_ <;> rw [kept]
    · rfl
    · exact .refl _
    · exact .refl _
    · show (s.ret.records.map _).length + s.ret.purchases.length ≤ 32
      rwa [List.length_map]

/-- R95: after a cold start there is no record and no purchase. -/
theorem ledgerKept_of_cold {s t : State} (cold : t.ret = Retained.cold) : LedgerKept s t := by
  refine ⟨fun _ _ => ?_, fun _ _ => ?_⟩ <;> rw [cold] <;> decide

theorem exec_installationReadEnd_ledgerKept (memory : List Byte) {s t : State}
    (h : exec (.installationReadEnd memory) s = .next t) : LedgerKept s t := by
  cases h
  split
  · have ended : LedgerKept s (evalShed (readEnded memory s)) := .of_ledger rfl
    exact ended.trans (startUpCompletion_ledgerKept _)
  · exact .refl s

/-! ### Every command, every step -/

theorem exec_ledgerKept (c : Instr) {s t : State} (h : exec c s = .next t) : LedgerKept s t := by
  cases c with
  | powerUp =>
    cases h
    dsimp only
    split
    · exact .refl s
    · exact makeStart_ledgerKept rfl rfl
  | resetHeldLow => cases h; exact .of_ledger rfl
  | resetRelease =>
    cases h
    dsimp only
    split
    · exact makeStart_ledgerKept rfl rfl
    · exact .of_ledger rfl
  | standbySupplyLoss | mainSupplyLoss =>
    cases h
    dsimp only
    split
    · exact .of_lost rfl
    · exact .of_ledger rfl
  | coldStartWritesEnd =>
    cases h
    split
    · exact ledgerKept_of_cold rfl
    · exact .refl s
  | installationReadEnd memory => exact exec_installationReadEnd_ledgerKept memory h
  | feedUnitArrival bytes =>
    cases h
    split
    · split
      · exact .of_ledger (offerFeed_ledger ..)
      · exact .of_ledger rfl
    · exact .refl s
  | feedInterfaceDiscard _ | localInsertByte _ =>
    cases h
    split <;> exact .of_ledger rfl
  | mediaUnit =>
    cases h
    split
    · split
      · exact .of_ledger ((commitsDue_ledger _).trans (classifyMedia_ledger ..))
      · exact .refl s
    · exact .refl s
  | discardedFeedUnit | directiveIgnored => cases h; exact onFeed_ledgerKept _ (fun _ s => .refl s) s
  | timeMark =>
    cases h
    refine onFeed_ledgerKept _ (fun u s => ?_) s
    split
    · exact adoptTime_ledgerKept ..
    · exact .of_ledger rfl
  | keyUnit =>
    cases h
    exact onFeed_ledgerKept _ (fun u s => .of_ledger (ledger_foldl _ takeEntry_ledger _ s)) s
  | tableOpen | tableRows | tableClose =>
    cases h
    refine onDirective_ledgerKept _ _ (fun _ _ => ?_) s
    exact .of_ledger rfl
  | checkCompletion table => exact .of_ledger (execCheckCompletion_ledger table h)
  | tableActivation table =>
    cases h
    split
    · exact .of_ledger (decideCommit_ledger ..)
    · exact .refl s
  | tableCommit table =>
    cases h
    split
    · exact .of_ledger (commitIfDue_ledger table s)
    · exact .refl s
  | roomRecord =>
    cases h
    refine onDirective_ledgerKept _ _ (fun x s => ?_) s
    split
    · exact .of_ledger (takeActive_ledger ..)
    · exact .of_ledger rfl
  | tenancyChange =>
    cases h
    refine onDirective_ledgerKept _ _ (fun _ s => ?_) s
    split
    · exact .refl s
    · exact beginClosing_ledgerKept s
  | completionTimeout =>
    cases h
    split <;> exact .of_ledger rfl
  | lockReset =>
    cases h
    refine onDirective_ledgerKept _ _ (fun _ s => ?_) s
    exact .of_ledger (closeLock_ledger s)
  | purchaseVoid => cases h; exact onDirective_ledgerKept _ _ voidFilm_ledgerKept s
  | billingReceipt => cases h; exact onDirective_ledgerKept _ _ receive_ledgerKept s
  | billingPoll => cases h; exact onDirective_ledgerKept (act := poll) _ _ (fun _ _ => .of_ledger rfl) s
  | emergencyOn =>
    cases h
    exact onDirective_ledgerKept _ _ (fun _ _ => .of_ledger (beginEmergency_ledger ..)) s
  | emergencyOff =>
    cases h
    exact onDirective_ledgerKept _ _ (fun _ s => .of_ledger (endEmergency_ledger s)) s
  | refusedUnit | unknownCommand =>
    cases h
    refine onLocal_ledgerKept _ (fun _ _ => ?_) s
    exact .of_ledger rfl
  | select => cases h; exact onCommand_ledgerKept _ _ (fun _ _ => .of_ledger (selectLabel_ledger ..)) s
  | purchase => cases h; exact onCommand_ledgerKept _ _ buy_ledgerKept s
  | pinEntry => cases h; exact onCommand_ledgerKept _ _ (fun _ _ => .of_ledger (enterPin_ledger ..)) s
  | relock => cases h; exact onCommand_ledgerKept _ _ (fun _ s => .of_ledger (relockNow_ledger s)) s
  | query | alertSetup | alertClear =>
    cases h
    exact onCommand_ledgerKept _ _ (fun _ _ => .of_ledger rfl) s
  | secondEvent =>
    cases h
    split
    · exact secondEvent_ledgerKept s
    · exact .refl s
  | sessionExpiry | lockoutExpiry =>
    cases h
    split
    · exact .of_ledger (lockEvent_byLock (paid .lock s)).ledger
    · exact .refl s
  | graceUsedUp | graceLapse | stepRemainingEnd =>
    cases h
    split
    · exact payMeter_ledgerKept s
    · exact .refl s
  | resultUnitBegin _ => cases h; exact .of_ledger (beginResult_ledger _)
  | resultUnitEnd _ => cases h; exact .of_ledger (endResult_ledger _)
  | billingUnitBegin _ => cases h; exact .of_ledger (beginBilling_ledger _)
  | billingUnitEnd ready =>
    cases h
    exact LedgerKept.trans (t := sampleReturn ready s) (.of_ledger rfl) (endBilling_ledgerKept _)
  | outputUnitBegin _ _ | outputUnitEnd _ _ => cases h; exact .of_ledger rfl

theorem step_ledgerKept {s t : State} (h : step s = .next t) : LedgerKept s t := by
  unfold step at h
  split at h
  · cases h
    exact .of_ledger (tick_ledger s)
  · rename_i c rest _
    exact LedgerKept.trans (t := { s with pending := rest }) (.of_ledger rfl) (exec_ledgerKept c h)

end Sys2Proof.Machine

/-- Settles O54: a record or a purchase is taken on only where the reservation leaves it a place. -/
theorem stepKeepsTheReservation : Obligations.StepKeepsTheReservation :=
  fun _ _ hs h => (Sys2Proof.Machine.step_ledgerKept h).reservation hs

/-- Settles O60: a purchase is taken on only of a film that none has, with a number that none holds, and the counter
moves on to a free one. -/
theorem stepKeepsPurchasesDistinct : Obligations.StepKeepsPurchasesDistinct :=
  fun _ _ hs h => (Sys2Proof.Machine.step_ledgerKept h).distinct hs
end

section
/-!
The emergency override holds the purchases (O42).
-/
namespace Sys2Proof.Machine

/-- R136: under the override the meter reaches no purchase and no record. -/
theorem meterSecond_ledger_of_override {s : State} (h : s.emergency ≠ none) :
    ledger (meterSecond s) = ledger s := by
  cases hrun : running s with
  | false => rw [meterSecond_of_not_running hrun]
  | true =>
    rw [meterSecond_of_override hrun h]
    exact evalBillingDay_ledger s

theorem takeSecond_ledger_of_override (c : Consumer) {s : State} (h : s.emergency ≠ none) :
    ledger (takeSecond c s) = ledger s := by
  by_cases meter : c = .meter
  · rw [meter]
    exact meterSecond_ledger_of_override h
  · exact takeSecond_ledger meter s

theorem deliverSecond_ledger_of_override (later : List Consumer) (c : Consumer) {s : State}
    (h : s.emergency ≠ none) : ledger (deliverSecond later c s) = ledger s := by
  unfold deliverSecond
  split
  · rfl
  · exact takeSecond_ledger_of_override c h

/-- R47, R136: the override stands through the reactions of the consumers, and each leaves the ledger. -/
theorem ledger_foldl_of_override {f : State → Consumer → State} (untouched : ∀ s c, Untouched s (f s c))
    (held : ∀ c {s : State}, s.emergency ≠ none → ledger (f s c) = ledger s) :
    ∀ (l : List Consumer) {s : State}, s.emergency ≠ none → ledger (l.foldl f s) = ledger s
  | [], _, _ => rfl
  | c :: l, s, h =>
    (ledger_foldl_of_override untouched held l ((untouched s c).emergency ▸ h)).trans (held c h)

theorem settle_ledger_of_override {s : State} (h : s.emergency ≠ none) : ledger (settle s) = ledger s :=
  ledger_foldl_of_override (fun s c => takeSecond_untouched c s) takeSecond_ledger_of_override s.model.due
    (s := { s with model := { s.model with due := [] } }) h

theorem secondEvent_ledger_of_override {s : State} (h : s.emergency ≠ none) :
    ledger (secondEvent s) = ledger s := by
  have override : (settle s).emergency ≠ none := (settle_untouched s).emergency ▸ h
  rw [secondEvent_eq]
  refine Eq.trans ?_ (settle_ledger_of_override h)
  exact ledger_foldl_of_override (fun s c => deliverSecond_untouched _ c s)
    (deliverSecond_ledger_of_override _) _ override

end Sys2Proof.Machine

open Sys2Proof.Machine in
/-- Settles O42: under the override no consumer of the second event, and no debt of one, reaches the ledger. -/
theorem emergencyHoldsThePurchases : Obligations.EmergencyHoldsThePurchases := by
  intro s override
  cases hlive : live s with
  | false => exact ⟨s, exec_secondEvent_of_not_live hlive, rfl, rfl, rfl⟩
  | true =>
    have held := secondEvent_ledger_of_override override
    simp only [ledger, Prod.mk.injEq] at held
    obtain ⟨-, purchases, -, records, nextSerial⟩ := held
    exact ⟨_, exec_secondEvent_of_live hlive, purchases, records, nextSerial⟩
end

section
/-!
The checks of PURCHASE (O37).
-/
namespace Sys2Proof.Machine

theorem exec_purchase_of_taken {s : State} {q : StampedUnit} {label : Nat}
    (taken : LocalTakes s (.command .purchase) q) (operands : readPurchase q.unit.payload = some label)
    {code : ResultCode} {u : State} (reply : buy label (afterLocal s) = (u, code, [])) :
    exec .purchase s = .next (answered q code [] u) := by
  refine congrArg Host.Outcome.next ((onCommand_of_taken taken operands buy).trans ?_)
  rw [reply]

/-! ### The checks before the billing day is evaluated (R128, checks 1 to 4) -/

section
variable {s : State} (label : Nat)

theorem buy_of_closing (h : s.ret.tenancy = .closing) : buy label s = (s, .closing, []) := if_pos h

theorem buy_of_override (stay : s.ret.tenancy ≠ .closing) (h : s.emergency ≠ none) :
    buy label s = (s, .override, []) := by
  have override : s.emergency.isSome = true := Option.isSome_iff_ne_none.mpr h
  rw [buy, if_neg stay, if_pos override]

theorem buy_of_unset (stay : s.ret.tenancy ≠ .closing) (free : s.emergency = none)
    (h : s.time.building = none) : buy label s = (s, .timeUnset, []) := by
  simp [buy, stay, free, h]

theorem buy_of_vacant (free : s.emergency = none) (time : s.time.building ≠ none)
    (h : s.ret.tenancy = .vacant) : buy label s = (s, .vacant, []) := by
  simp [buy, free, time, h]

/-! ### The checks after it (R128, checks 5 to 11) -/

theorem buyFilm_of_no_row (h : serviceRow s label = none) : buyFilm label s = (s, .noService, []) := by
  rw [buyFilm, h]

theorem buyFilm_of_refused {r : ServiceRow} {code : ResultCode} (row : serviceRow s label = some r)
    (h : filmRefusal s r = some code) : buyFilm label s = (s, code, []) := by
  simp only [buyFilm, row, h]

end

section
variable {s : State} {r : ServiceRow}

theorem filmRefusal_of_not_film (h : r.access ≠ .film) : filmRefusal s r = some .notFilm := if_pos h

theorem filmRefusal_of_bought (film : r.access = .film) (h : isBought s r.film = true) :
    filmRefusal s r = some .already := by
  rw [filmRefusal, if_neg (not_not.mpr film), if_pos h]

theorem filmRefusal_of_lock {code : ResultCode} (film : r.access = .film) (fresh : isBought s r.film = false)
    (h : lockRefusal s r = some code) : filmRefusal s r = some code := by
  simp [filmRefusal, film, fresh, h]

/-- R128: behind the lock test come the places, and then the spend limit. -/
theorem filmRefusal_of_lock_passed (film : r.access = .film) (fresh : isBought s r.film = false)
    (lock : lockTest s r.rating = .pass) : filmRefusal s r =
      if 8 ≤ s.ret.purchases.length then some .purchasesFull
      else if 32 < s.ret.records.length + s.ret.purchases.length + 1 then some .billingFull
      else if overLimit s r then some .limit
      else none := by
  simp only [filmRefusal, film, ne_eq, not_true_eq_false, if_false, fresh, Bool.false_eq_true,
    lockRefusal_of_pass lock]

theorem lockRefusal_of_locked (h : lockTest s r.rating = .locked) : lockRefusal s r = some .locked := by
  rw [lockRefusal, h]

theorem lockRefusal_of_barred (h : lockTest s r.rating = .barred) : lockRefusal s r = some .barred := by
  rw [lockRefusal, h]

theorem lockRefusal_of_outOfWindow (h : lockTest s r.rating = .outOfWindow) :
    lockRefusal s r = some .outOfWindow := by
  rw [lockRefusal, h]

/-! ### The spend limit (R129) -/

theorem firstCharge_eq (s : State) (r : ServiceRow) : firstCharge s r =
    if r.ceiling = 0 then (stepAt (tariffOf s r) 0).charge
    else min (stepAt (tariffOf s r) 0).charge r.ceiling := by
  unfold firstCharge chargeAmount newPurchase
  split_ifs <;> simp [underCeiling]

theorem allowance_of_guest {g : RoomRecord} (h : guest s = some g) :
    allowance s = g.spendLimit - s.ret.spentToday := by
  rw [allowance, h]

theorem overLimit_iff {g : RoomRecord} (h : guest s = some g) : overLimit s r = true ↔
    g.spendLimit = 0 ∨ g.spendLimit - s.ret.spentToday < firstCharge s r := by
  simp [overLimit, allowance_of_guest h, h]

end

end Sys2Proof.Machine

open Sys2Proof.Machine in
/-- Settles O37: the checks in the order in which PURCHASE makes them, and the limit by the first charge. -/
theorem purchaseIsRefusedInOrder : Obligations.PurchaseIsRefusedInOrder := by
  refine ⟨fun s q label taken operands => ?checks, fun s r g occupied active => ?limit⟩
  case checks =>
    intro p e refused
    have answer {code : ResultCode} {u : State} (reply : buy label p = (u, code, [])) : refused code u :=
      exec_purchase_of_taken taken operands reply
    refine ⟨fun closing => answer (buy_of_closing label closing),
      fun stay override => answer (buy_of_override label stay override),
      fun stay free unset => answer (buy_of_unset label stay free unset),
      fun free time vacant => answer (buy_of_vacant label free time vacant), fun free time occupied => ?guest⟩
    case guest =>
      have evaluated : buy label p = buyFilm label e := buy_of_guest label occupied free time
      refine ⟨fun none => answer (evaluated.trans (buyFilm_of_no_row label none)), fun r row => ?_⟩
      have refuse {code : ResultCode} (h : filmRefusal e r = some code) : refused code e :=
        answer (evaluated.trans (buyFilm_of_refused label row h))
      refine ⟨fun other => refuse (filmRefusal_of_not_film other), fun film =>
        ⟨fun bought => refuse (filmRefusal_of_bought film bought), fun fresh => ?_⟩⟩
      refine ⟨fun lock => refuse (filmRefusal_of_lock film fresh (lockRefusal_of_locked lock)),
        fun lock => refuse (filmRefusal_of_lock film fresh (lockRefusal_of_barred lock)),
        fun lock => refuse (filmRefusal_of_lock film fresh (lockRefusal_of_outOfWindow lock)), fun lock => ?_⟩
      have rest := filmRefusal_of_lock_passed film fresh lock
      refine ⟨fun full => refuse (rest.trans (if_pos full)), fun room => ?_⟩
      rw [if_neg (Nat.not_le.mpr room)] at rest
      refine ⟨fun none => refuse (rest.trans (if_pos none)), fun place limit => ?_⟩
      rw [if_neg (Nat.not_lt.mpr place), if_pos limit] at rest
      exact refuse rest
  case limit =>
    intro charge first
    have amount : firstCharge s r = first := firstCharge_eq s r
    rw [overLimit_iff (guest_of_occupied occupied active), amount]
    omega
end

section
/-!
The charge of a beginning repetition (O40) and the meter on a second event (O41).
-/
namespace Sys2Proof.Machine

/-! ### The charge (R137, R138) -/

theorem chargeAmount_eq (p : Purchase) (position k : Nat) : chargeAmount p position k =
    match p.ceiling with
    | some c => if c ≤ p.total then 0
        else min ((stepAt p.steps position).charge + k * (stepAt p.steps position).increment) (c - p.total)
    | none => (stepAt p.steps position).charge + k * (stepAt p.steps position).increment := by
  unfold chargeAmount underCeiling
  cases p.ceiling with
  | none => rfl
  | some c =>
    dsimp only
    split <;> omega

theorem addTotal_zero {total : Nat} (h : total ≤ 99999999) : addTotal total 0 = total := Nat.min_eq_left h

section
variable {s : State} {n i : Nat} {p : Purchase}

theorem purchaseOf_first (place : s.ret.purchases[i]? = some p) (number : p.number = n)
    (first : ∀ j y, j < i → s.ret.purchases[j]? = some y → y.number ≠ n) : purchaseOf s n = some p :=
  find?_first number place first

/-- The part with the purchase at a place of the table replaced. -/
def withPurchase (i : Nat) (p : Purchase) (s : State) : State :=
  { s with ret := { s.ret with purchases := s.ret.purchases.set i p } }

theorem withPurchase_self (place : s.ret.purchases[i]? = some p) : withPurchase i p s = s := by
  obtain ⟨inside, rfl⟩ := List.getElem?_eq_some_iff.mp place
  simp only [withPurchase, List.set_getElem_self]

theorem setRunning_first (place : s.ret.purchases[i]? = some p) (number : p.number = n)
    (first : ∀ j y, j < i → s.ret.purchases[j]? = some y → y.number ≠ n) (position k amount : Nat) :
    setRunning n position k amount s = withPurchase i
      { p with
        state := .running position k (stepAt p.steps position).duration
        total := addTotal p.total amount } s := by
  simp only [setRunning, changePurchase_first _ number place first, withPurchase]

theorem setPurchaseState_first (place : s.ret.purchases[i]? = some p) (number : p.number = n)
    (first : ∀ j y, j < i → s.ret.purchases[j]? = some y → y.number ≠ n) (state : PurchaseState) :
    setPurchaseState n state s = withPurchase i { p with state := state } s := by
  simp only [setPurchaseState, changePurchase_first _ number place first, withPurchase]

/-- R138: a repetition begins with what becomes of its charge. -/
theorem beginRepetition_of_live (live : purchaseOf s n = some p) (position k : Nat) :
    beginRepetition n position k s =
      match chargeFate s (chargeAmount p position k) with
      | .free => setRunning n position k 0 s
      | .overLimit => endPurchase n .limit s
      | .noPlace => endPurchase n .queue s
      | .posted =>
        post (.charge (chargeAmount p position k) position k) n p.film
          { setRunning n position k (chargeAmount p position k) s with
            ret := { (setRunning n position k (chargeAmount p position k) s).ret with
              spentToday := s.ret.spentToday + chargeAmount p position k } } := by
  have number := purchaseOf_number live
  subst number
  simp only [beginRepetition, live]
  rfl

/-! ### A purchase on a second event (R134, R135) -/

theorem meterPurchase_of_grace (live : purchaseOf s n = some p) {needed seen lapse : Nat}
    (grace : p.state = .grace needed seen lapse) (viewed : Bool) : meterPurchase n viewed s =
      if viewed then
        if seen + 1 = needed then beginRepetition n 0 0 s
        else setPurchaseState n (.grace needed (seen + 1) lapse) s
      else if lapse - 1 = 0 then endPurchase n .lapsed s
      else setPurchaseState n (.grace needed seen (lapse - 1)) s := by
  simp only [meterPurchase, live, grace]

/-- R135: a repetition whose present second does not count stands. -/
theorem meterPurchase_of_uncounted (live : purchaseOf s n = some p) {position k remaining : Nat}
    (running : p.state = .running position k remaining) (left : 1 ≤ remaining) {viewed : Bool}
    (uncounted : ¬((stepAt p.steps position).measure = .elapsed ∨ viewed = true)) :
    meterPurchase n viewed s = setPurchaseState n (.running position k remaining) s := by
  simp only [meterPurchase, live, running, if_neg uncounted, if_neg (Nat.one_le_iff_ne_zero.mp left)]

/-- R135: a second that counts is taken from the repetition, and the last one moves the purchase on. -/
theorem meterPurchase_of_counted (live : purchaseOf s n = some p) {position k remaining : Nat}
    (running : p.state = .running position k remaining) {viewed : Bool}
    (counted : (stepAt p.steps position).measure = .elapsed ∨ viewed = true) :
    meterPurchase n viewed s =
      if remaining - 1 = 0 then
        if k < (stepAt p.steps position).repeats then beginRepetition n position (k + 1) s
        else if position + 1 < p.steps.length then beginRepetition n (position + 1) 0 s
        else endPurchase n .complete s
      else setPurchaseState n (.running position k (remaining - 1)) s := by
  simp only [meterPurchase, live, running, if_pos counted]

end

/-! ### The viewed second (R131) -/

theorem isViewed_iff (s : State) (film : Nat) : isViewed s film = true ↔
    ∃ out, (out = s.outA ∨ out = s.outB) ∧ out.viewed = true
      ∧ ∃ r, serviceRow s out.selected = some r ∧ r.access = .film ∧ r.film = film := by
  have shows (out : Output) : (out.viewed && (match serviceRow s out.selected with
      | some r => r.access == .film && r.film == film
      | none => false)) = true ↔
      out.viewed = true ∧ ∃ r, serviceRow s out.selected = some r ∧ r.access = .film ∧ r.film = film := by
    cases serviceRow s out.selected <;> simp
  simp only [exists_eq_left, or_and_right, exists_or, ← shows]
  exact Bool.or_eq_true_iff

/-! ### The rows with which the meter takes an owed second event (log 5) -/

theorem meterOwes_of_live {ends : State → Purchase → Bool} {s : State} {p : Purchase} (hrun : running s = true)
    (due : .meter ∈ s.model.due) (free : s.emergency = none) (live : p ∈ s.ret.purchases)
    (ends_now : ends s p = true) : meterOwes ends s = true := by
  simp only [meterOwes, hrun, List.contains_iff_mem.mpr due, free, Option.isNone_none, Bool.and_self, Bool.true_and]
  exact List.any_eq_true.mpr ⟨p, live, ends_now⟩

theorem meterOwes_of_not_due {s : State} (h : .meter ∉ s.model.due) (ends : State → Purchase → Bool) :
    meterOwes ends s = false := by
  simp [meterOwes, h]

theorem payMeter_of_no_override {s : State} (hrun : running s = true) (free : s.emergency = none) :
    payMeter s = clearViewed (meterAll (evalBillingDay (paid .meter s)) (evalBillingDay (paid .meter s))) :=
  meterSecond_of_no_override (s := paid .meter s) hrun free

theorem exec_graceUsedUp (s : State) :
    exec .graceUsedUp s = .next (if meterOwes graceEnds s then payMeter s else s) := rfl

theorem exec_graceLapse (s : State) :
    exec .graceLapse s = .next (if meterOwes graceLapses s then payMeter s else s) := rfl

theorem exec_stepRemainingEnd (s : State) :
    exec .stepRemainingEnd s = .next (if meterOwes repetitionEnds s then payMeter s else s) := rfl

theorem graceEnds_of_grace {s : State} {p : Purchase} {needed seen lapse : Nat}
    (grace : p.state = .grace needed seen lapse) (viewed : isViewed s p.film = true) (used : seen + 1 = needed) :
    graceEnds s p = true := by
  simp [graceEnds, grace, viewed, used]

theorem graceLapses_of_grace {s : State} {p : Purchase} {needed seen lapse : Nat}
    (grace : p.state = .grace needed seen lapse) (unviewed : isViewed s p.film = false) (last : lapse ≤ 1) :
    graceLapses s p = true := by
  simp [graceLapses, grace, unviewed, last]

theorem repetitionEnds_of_running {s : State} {p : Purchase} {position k remaining : Nat}
    (running : p.state = .running position k remaining) (last : remaining ≤ 1)
    (counted : (stepAt p.steps position).measure = .elapsed ∨ isViewed s p.film = true) :
    repetitionEnds s p = true := by
  simp [repetitionEnds, running, last, counted]

end Sys2Proof.Machine

open Sys2Proof.Machine in
/-- Settles O40: the amount by the ceiling, and the beginning of the repetition by what becomes of it. -/
theorem chargesAreTested : Obligations.ChargesAreTested := by
  intro s n i position k p place number first small step raw a allowed begun t
  have amount : chargeAmount p position k = a := chargeAmount_eq p position k
  have begins := beginRepetition_of_live (purchaseOf_first place number first) position k
  rw [amount] at begins
  have running := setRunning_first place number first position k
  refine ⟨fun free => ?_, fun positive above => ?_, fun positive within full => ?_,
    fun positive within room => ?_⟩
  · rw [(chargeFate_eq_free_iff s a).mpr free] at begins
    refine begins.trans ((running 0).trans ?_)
    rw [addTotal_zero small]
    rfl
  · rwa [(chargeFate_eq_overLimit_iff s a).mpr ⟨positive, above⟩] at begins
  · rwa [(chargeFate_eq_noPlace_iff s a).mpr ⟨positive, within, full⟩] at begins
  · rw [(chargeFate_eq_posted_iff s a).mpr ⟨positive, within, room⟩, running a] at begins
    exact begins

open Sys2Proof.Machine in
/-- Settles O41: each live purchase by its state and by the seconds that are left, and the three rows by the debt
that they find. -/
theorem meterTakesTheSecond : Obligations.MeterTakesTheSecond := by
  refine ⟨fun s n i viewed p place number first => ?purchase, isViewed_iff, fun s hrun due free => ?rows,
    fun s paidUp => ?idle⟩
  case purchase =>
    intro changed
    have live := purchaseOf_first place number first
    have moved (state : PurchaseState) : setPurchaseState n state s = changed state :=
      setPurchaseState_first place number first state
    refine ⟨fun needed seen lapse grace => ?grace, fun position k remaining running left => ?running⟩
    case grace =>
      have metered := meterPurchase_of_grace live grace viewed
      simp only [moved] at metered
      refine ⟨fun seen used => ?_, fun seen more => ?_, fun unseen last => ?_, fun unseen more => ?_⟩
      · rw [metered, if_pos seen, if_pos used]
      · rw [metered, if_pos seen, if_neg more]
      · rw [metered, if_neg (by simp [unseen]), if_pos (by omega)]
      · rw [metered, if_neg (by simp [unseen]), if_neg (by omega)]
    case running =>
      intro step counts
      refine ⟨fun uncounted => ?_, fun counted more => ?_, fun counted last again => ?_,
        fun counted last done more => ?_, fun counted last done final => ?_⟩
      · rw [meterPurchase_of_uncounted live running left uncounted, moved, ← running]
        exact withPurchase_self place
      · rw [meterPurchase_of_counted live running counted, if_neg (by omega), moved]
      · rw [meterPurchase_of_counted live running counted, if_pos (by omega), if_pos again]
      · rw [meterPurchase_of_counted live running counted, if_pos (by omega), if_neg (Nat.not_lt.mpr done),
          if_pos more]
      · rw [meterPurchase_of_counted live running counted, if_pos (by omega), if_neg (Nat.not_lt.mpr done),
          if_neg (Nat.not_lt.mpr final)]
  case rows =>
    intro e taken p live
    have pays : Host.Outcome.next (payMeter s) = taken := congrArg _ (payMeter_of_no_override hrun free)
    have owes {ends : State → Purchase → Bool} (ends_now : ends s p = true) : meterOwes ends s = true :=
      meterOwes_of_live hrun due free live ends_now
    refine ⟨fun needed seen lapse grace viewed used => ?_, fun needed seen lapse grace unviewed last => ?_,
      fun position k remaining running last counted => ?_⟩
    · rw [exec_graceUsedUp, if_pos (owes (graceEnds_of_grace grace viewed used)), pays]
    · rw [exec_graceLapse, if_pos (owes (graceLapses_of_grace grace unviewed last)), pays]
    · rw [exec_stepRemainingEnd, if_pos (owes (repetitionEnds_of_running running last counted)), pays]
  case idle =>
    have none (ends : State → Purchase → Bool) : ¬meterOwes ends s = true := by
      rw [meterOwes_of_not_due paidUp ends]
      decide
    exact ⟨congrArg _ (if_neg (none graceEnds)), congrArg _ (if_neg (none graceLapses)),
      congrArg _ (if_neg (none repetitionEnds))⟩
end

section
/-!
The Billing Queue: a post, a receipt and a poll (O43, O44, O45).
-/
namespace Sys2Proof.Machine

/-! ### The crossings of the threshold (R156) -/

/-- R156: a post can only be a rising crossing. -/
theorem billingHighLatches_of_post (s : State) (n : Nat) : billingHighLatches s n (n + 1) =
    (decide (s.alerts.sense = .rising) && decide (n < s.install.billingHigh)
      && decide (s.install.billingHigh ≤ n + 1)) := by
  unfold billingHighLatches
  cases s.alerts.sense with
  | rising => rfl
  | falling =>
    simp only [fallingCrossing, reduceCtorEq, decide_false, Bool.false_and, Bool.and_eq_false_iff,
      decide_eq_false_iff_not]
    omega

/-- R156: a removal can only be a falling crossing. -/
theorem billingHighLatches_of_removal (s : State) {before after : Nat} (fewer : after ≤ before) :
    billingHighLatches s before after =
      (decide (s.alerts.sense = .falling) && decide (s.install.billingHigh ≤ before)
        && decide (after < s.install.billingHigh)) := by
  unfold billingHighLatches
  cases s.alerts.sense with
  | rising =>
    simp only [risingCrossing, reduceCtorEq, decide_false, Bool.false_and, Bool.and_eq_false_iff,
      decide_eq_false_iff_not]
    omega
  | falling => rfl

/-! ### A post (R149 to R151) -/

/-- R151: a position that named no record names the one posted. -/
theorem post_offer_eq (entry : BillingEntry) (purchase film : Nat) (s : State) :
    (post entry purchase film s).offer = some (s.offer.getD s.ret.nextSerial) := by
  unfold post
  cases s.offer <;> rfl

theorem post_eq (entry : BillingEntry) (purchase film : Nat) (s : State) : post entry purchase film s =
    { s with
      ret := { s.ret with
        records := s.ret.records ++ [newRecord s entry purchase film]
        nextSerial := nextSerialAfter s.ret.nextSerial }
      offer := some (s.offer.getD s.ret.nextSerial)
      alerts := s.alerts.latchIf
        (decide (s.alerts.sense = .rising) && decide (s.ret.records.length < s.install.billingHigh)
          && decide (s.install.billingHigh ≤ s.ret.records.length + 1)) .billingHigh } := by
  rw [← post_offer_eq entry purchase film s, ← billingHighLatches_of_post]
  rfl

/-! ### A receipt (R154) -/

/-- R154: the records newer than the first one of a serial. -/
theorem newerThan_first {serial : Nat} {record : BillingRecord} (own : record.serial = serial)
    (newer : List BillingRecord) : ∀ older : List BillingRecord, (∀ x ∈ older, x.serial ≠ serial) →
      newerThan serial (older ++ record :: newer) = newer
  | [], _ => if_pos own
  | r :: older, other => by
    rw [List.cons_append, newerThan, if_neg (other r List.mem_cons_self)]
    exact newerThan_first own newer older fun x mem => other x (List.mem_cons_of_mem r mem)

theorem offerAfterReceipt_eq (kept : List BillingRecord) (offer : Option Nat) :
    offerAfterReceipt kept offer = offer.bind fun k =>
      if kept.any (fun x => decide (x.serial = k)) then some k else kept.head?.map (·.serial) := by
  cases offer <;> rfl

/-- R154, R156: what goes with the first record of a serial. -/
theorem removeThrough_eq {s : State} {serial : Nat} {older newer : List BillingRecord} {record : BillingRecord}
    (split : s.ret.records = older ++ record :: newer) (own : record.serial = serial)
    (first : ∀ x ∈ older, x.serial ≠ serial) : removeThrough serial s =
      { s with
        ret := { s.ret with records := newer }
        offer := s.offer.bind fun k =>
          if newer.any (fun x => decide (x.serial = k)) then some k else newer.head?.map (·.serial)
        alerts := s.alerts.latchIf
          (decide (s.alerts.sense = .falling) && decide (s.install.billingHigh ≤ s.ret.records.length)
            && decide (newer.length < s.install.billingHigh)) .billingHigh } := by
  have kept : newerThan serial s.ret.records = newer := by rw [split, newerThan_first own newer older first]
  have fewer : newer.length ≤ s.ret.records.length := kept ▸ (newerThan_suffix serial s.ret.records).length_le
  rw [← billingHighLatches_of_removal s fewer, ← offerAfterReceipt_eq, ← kept]
  rfl

theorem receive_of_mem {s : State} {serial : Nat} {x : BillingRecord} (mem : x ∈ s.ret.records)
    (own : x.serial = serial) : receive serial s = testCompletion (removeThrough serial s) :=
  if_pos ((hasSerial_iff ..).mpr ⟨x, mem, own⟩)

theorem hasSerial_of_absent {records : List BillingRecord} {serial : Nat}
    (absent : ∀ x ∈ records, x.serial ≠ serial) : hasSerial records serial = false := by
  simpa [hasSerial] using absent

theorem receive_of_absent {s : State} {serial : Nat} (absent : ∀ x ∈ s.ret.records, x.serial ≠ serial) :
    receive serial s = s :=
  if_neg (by simp [hasSerial_of_absent absent])

theorem exec_billingReceipt_of_taken {s : State} {q : StampedUnit} {serial : Nat}
    (taken : FeedTakes s .billingReceipt q) (operands : readNumber q.unit.payload = some serial) :
    exec .billingReceipt s = .next (receive serial (afterFeed s)) :=
  congrArg _ (onDirective_of_taken taken operands receive)

/-! ### A poll (R155) -/

theorem poll_of_mem {s : State} {serial : Nat} {x : BillingRecord} (mem : x ∈ s.ret.records)
    (own : x.serial = serial) : poll serial s = { s with offer := some serial } := by
  have present : hasSerial s.ret.records serial = true := (hasSerial_iff ..).mpr ⟨x, mem, own⟩
  rw [poll, if_pos present]

theorem poll_of_absent {s : State} {serial : Nat} (absent : ∀ x ∈ s.ret.records, x.serial ≠ serial) :
    poll serial s = { s with offer := s.ret.records.head?.map (·.serial) } := by
  rw [poll, if_neg (by simp [hasSerial_of_absent absent])]
  rfl

theorem exec_billingPoll_of_taken {s : State} {q : StampedUnit} {serial : Nat}
    (taken : FeedTakes s .billingPoll q) (operands : readNumber q.unit.payload = some serial) :
    exec .billingPoll s = .next (poll serial (afterFeed s)) :=
  congrArg _ (onDirective_of_taken taken operands poll)

/-- R144, R154, R155: a number of 0, or a must-be-zero byte that is not 0. -/
theorem readNumber_of_malformed {payload : List Byte} (h : field (directiveBody payload) 0 2 = 0
    ∨ byteAt (directiveBody payload) 2 ≠ 0 ∨ byteAt (directiveBody payload) 3 ≠ 0) :
    readNumber payload = none := by
  rw [field_directiveBody, byteAt_directiveBody, byteAt_directiveBody, ne_eq, ne_eq, byte_eq_zero_iff,
    byte_eq_zero_iff] at h
  refine Option.eq_none_iff_forall_ne_some.mpr fun k read => ?_
  obtain ⟨-, spare2, spare3, number, nonzero⟩ := (readNumber_iff payload k).mp read
  rcases h with zero | set | set
  · exact nonzero (number.trans zero)
  · exact set spare2
  · exact set spare3

end Sys2Proof.Machine

open Sys2Proof.Machine in
/-- Settles O43: the record is `newRecord`, and a post can only cross the threshold upward. -/
theorem postFillsTheRecord : Obligations.PostFillsTheRecord := by
  intro s entry number film r active before
  refine ⟨newRecord s entry number film, post_eq entry number film s, rfl, rfl, rfl, ?tenancy, rfl, rfl, rfl,
    fun unset => ?unset, fun b set => ?set⟩
  case tenancy => simp [newRecord, active]
  case unset => simp [newRecord, unset]
  case set => simp [newRecord, set]

open Sys2Proof.Machine in
/-- Settles O44: by whether the serial is in the queue. -/
theorem billingReceiptReleasesRecords : Obligations.BillingReceiptReleasesRecords := by
  intro s q serial taken operands p
  rw [exec_billingReceipt_of_taken taken operands]
  refine ⟨fun older record newer split own first => ?_, fun absent => congrArg _ (receive_of_absent absent)⟩
  have mem : record ∈ p.ret.records := split ▸ List.mem_append_right older List.mem_cons_self
  rw [receive_of_mem mem own, removeThrough_eq split own first]

open Sys2Proof.Machine in
/-- Settles O45: by whether the serial is in the queue, and a malformed body through its reader. -/
theorem billingPollMovesThePosition : Obligations.BillingPollMovesThePosition := by
  intro s q taken p
  refine ⟨fun serial operands => ?_, fun malformed => ?_⟩
  · rw [exec_billingPoll_of_taken taken operands]
    exact ⟨fun x mem own => congrArg _ (poll_of_mem mem own), fun absent => congrArg _ (poll_of_absent absent)⟩
  · exact congrArg Host.Outcome.next (onDirective_of_formFault taken (readNumber_of_malformed malformed) poll)
end

section
/-!
What the events of the part do to the serials of the Billing Queue: records leave from the oldest on, and a record
joins with the next serial (`SerialsKept`).
-/
namespace Sys2Proof.Machine

/-! ### Consecutive serials (R150) -/

/-- R150: the serials and the next serial behind them are a chain. -/
theorem serialsChain_iff : ∀ (records : List BillingRecord) (next : Nat), serialsChain records next ↔
    (records.map (·.serial) ++ [next]).IsChain fun a b => b = nextSerialAfter a
  | [], _ => by simp [serialsChain]
  | [_], _ => by simp [serialsChain]
  | _ :: r :: rest, next => by
    simp only [serialsChain, serialsChain_iff (r :: rest) next, List.map_cons, List.cons_append,
      List.isChain_cons_cons]

/-- R150: from `s` to `t` the records stay in order of consecutive serials. -/
structure SerialsKept (s t : State) : Prop where
  consecutive : SerialsConsecutive s → SerialsConsecutive t

namespace SerialsKept

theorem refl (s : State) : SerialsKept s s := ⟨id⟩

theorem trans {s t u : State} (h : SerialsKept s t) (k : SerialsKept t u) : SerialsKept s u :=
  ⟨k.consecutive ∘ h.consecutive⟩

theorem foldl {α : Type} (f : State → α → State) (hf : ∀ s a, SerialsKept s (f s a)) :
    ∀ (l : List α) (s : State), SerialsKept s (l.foldl f s)
  | [], s => .refl s
  | a :: l, s => (hf s a).trans (SerialsKept.foldl f hf l (f s a))

/-- R91: of an area that is not whole nothing is promised. -/
theorem of_lost {s t : State} (lost : t.power.valid = false) : SerialsKept s t :=
  ⟨fun _ whole => by cases lost.symm.trans whole⟩

/-- R95: an empty queue has no serials to be out of order. -/
theorem of_empty {s t : State} (empty : t.ret.records = []) : SerialsKept s t := by
  refine ⟨fun _ _ => ?_⟩
  rw [empty]
  trivial

/-- R153, R154: records leave from the oldest on, or change but for their serials. -/
theorem of_suffix {s t : State} (valid : t.power.valid = s.power.valid)
    (next : t.ret.nextSerial = s.ret.nextSerial)
    (left : t.ret.records.map (·.serial) <:+ s.ret.records.map (·.serial)) : SerialsKept s t := by
  refine ⟨fun hs whole => ?_⟩
  have chain := (serialsChain_iff ..).mp (hs (valid ▸ whole))
  rw [serialsChain_iff, next]
  exact chain.suffix (List.suffix_append_self_iff.mpr left)

/-- R150: a record joins the tail with the next serial, which advances. -/
theorem of_posted {s t : State} {r : BillingRecord} (valid : t.power.valid = s.power.valid)
    (joined : t.ret.records = s.ret.records ++ [r]) (own : r.serial = s.ret.nextSerial)
    (next : t.ret.nextSerial = nextSerialAfter s.ret.nextSerial) : SerialsKept s t := by
  refine ⟨fun hs whole => ?_⟩
  have chain := (serialsChain_iff ..).mp (hs (valid ▸ whole))
  rw [serialsChain_iff, joined, next, List.map_append, List.map_singleton, own, List.append_assoc,
    List.singleton_append, List.isChain_append_cons_cons]
  exact ⟨chain, rfl, .singleton _⟩

theorem of_ledger {s t : State} (h : ledger t = ledger s) : SerialsKept s t := by
  simp only [ledger, Prod.mk.injEq] at h
  obtain ⟨valid, -, -, records, next⟩ := h
  exact of_suffix valid next (records ▸ List.suffix_refl _)

end SerialsKept

/-! ### The Purchase Meter (R137, R138, R143) -/

theorem endPurchase_serialsKept (n : Nat) (reason : EndReason) (s : State) :
    SerialsKept s (endPurchase n reason s) := by
  rcases endPurchase_cases n reason s with ⟨_, e⟩ | ⟨_, _, e⟩ <;> rw [e]
  · exact .refl s
  · exact .of_posted rfl rfl rfl rfl

theorem endAll_serialsKept (reason : EndReason) (s : State) : SerialsKept s (endAll reason s) :=
  SerialsKept.foldl _ (fun s n => endPurchase_serialsKept n reason s) _ s

theorem voidFilm_serialsKept (film : Nat) (s : State) : SerialsKept s (voidFilm film s) := by
  unfold voidFilm
  split
  · exact endPurchase_serialsKept ..
  · exact .refl s

theorem beginRepetition_serialsKept (n position k : Nat) (s : State) :
    SerialsKept s (beginRepetition n position k s) := by
  rcases beginRepetition_cases n position k s with
    ⟨_, e⟩ | ⟨_, _, ⟨_, e⟩ | ⟨_, e⟩ | ⟨_, e⟩ | ⟨_, e⟩⟩ <;> rw [e]
  · exact .refl s
  · exact .of_suffix rfl rfl (List.suffix_refl _)
  · exact endPurchase_serialsKept ..
  · exact endPurchase_serialsKept ..
  · exact .of_posted rfl rfl rfl rfl

/-! ### The second event (R133 to R136) -/

theorem meterPurchase_serialsKept (n : Nat) (viewed : Bool) (s : State) :
    SerialsKept s (meterPurchase n viewed s) := by
  rcases meterPurchase_cases n viewed s with e | ⟨_, e⟩ | ⟨_, _, e⟩ | ⟨_, e⟩ <;> rw [e]
  · exact .refl s
  · exact .of_suffix rfl rfl (List.suffix_refl _)
  · exact beginRepetition_serialsKept ..
  · exact endPurchase_serialsKept ..

theorem evalBillingDay_serialsKept (s : State) : SerialsKept s (evalBillingDay s) :=
  .of_ledger (evalBillingDay_ledger s)

theorem meterAll_serialsKept (s0 s : State) : SerialsKept s (meterAll s0 s) :=
  SerialsKept.foldl (fun (s : State) (p : Purchase) => meterPurchase p.number (isViewed s0 p.film) s)
    (fun s p => meterPurchase_serialsKept p.number _ s) s0.ret.purchases s

theorem meterSecond_serialsKept (s : State) : SerialsKept s (meterSecond s) := by
  by_cases free : s.emergency = none
  · cases hrun : running s with
    | false =>
      rw [meterSecond_of_not_running hrun]
      exact .refl s
    | true =>
      rw [meterSecond_of_no_override hrun free]
      exact ((evalBillingDay_serialsKept s).trans (meterAll_serialsKept _ _)).trans (.of_ledger rfl)
  · exact .of_ledger (meterSecond_ledger_of_override free)

theorem payMeter_serialsKept (s : State) : SerialsKept s (payMeter s) :=
  SerialsKept.trans (t := paid .meter s) (.of_ledger rfl) (meterSecond_serialsKept _)

theorem takeSecond_serialsKept (c : Consumer) (s : State) : SerialsKept s (takeSecond c s) := by
  by_cases meter : c = .meter
  · rw [meter]
    exact meterSecond_serialsKept s
  · exact .of_ledger (takeSecond_ledger meter s)

theorem deliverSecond_serialsKept (later : List Consumer) (c : Consumer) (s : State) :
    SerialsKept s (deliverSecond later c s) := by
  unfold deliverSecond
  split
  · exact .of_ledger rfl
  · exact takeSecond_serialsKept c s

/-- Log 5: the debts of the last second event are paid. -/
theorem settle_serialsKept (s : State) : SerialsKept s (settle s) :=
  SerialsKept.trans (t := { s with model := { s.model with due := [] } }) (.of_ledger rfl)
    (SerialsKept.foldl _ (fun s c => takeSecond_serialsKept c s) _ _)

theorem secondEvent_serialsKept (s : State) : SerialsKept s (secondEvent s) := by
  rw [secondEvent_eq]
  refine (settle_serialsKept s).trans
    (SerialsKept.trans ?_ (SerialsKept.foldl _ (fun s c => deliverSecond_serialsKept _ c s) _ _))
  exact .of_ledger rfl

/-- R47: the time step event itself posts nothing. -/
theorem adoptTime_serialsKept (t : BuildingTime) (s : State) : SerialsKept s (adoptTime t s) := by
  unfold adoptTime
  split
  · exact .refl s
  · exact (settle_serialsKept s).trans (.of_ledger (ledger_foldl _ (fun s c => takeStep_ledger c s) _ _))

/-! ### A purchase (R130) and the change of tenancy (R96, R103) -/

theorem acceptPurchase_serialsKept (r : ServiceRow) (s : State) : SerialsKept s (acceptPurchase r s) := by
  have added : SerialsKept s (addPurchase (newPurchase s r) s) := .of_suffix rfl rfl (List.suffix_refl _)
  by_cases grace : r.grace = 0
  · rw [acceptPurchase_of_no_grace grace]
    exact added.trans (beginRepetition_serialsKept ..)
  · rw [acceptPurchase_of_grace grace]
    exact added

theorem buyFilm_serialsKept (label : Nat) (s : State) : SerialsKept s (buyFilm label s).1 := by
  unfold buyFilm
  split
  · exact .refl s
  · split
    · exact .refl s
    · exact acceptPurchase_serialsKept ..

theorem buy_serialsKept (label : Nat) (s : State) : SerialsKept s (buy label s).1 := by
  unfold buy
  split_ifs
  · exact .refl s
  · exact .refl s
  · exact .refl s
  · exact .refl s
  · exact (evalBillingDay_serialsKept s).trans (buyFilm_serialsKept label _)

theorem startUpCompletion_serialsKept (s : State) : SerialsKept s (startUpCompletion s) := by
  unfold startUpCompletion
  split
  · exact .of_ledger rfl
  · exact (endAll_serialsKept .power s).trans (.of_ledger rfl)
  · exact .of_ledger rfl

theorem takeClosing_serialsKept (c : Consumer) (s : State) : SerialsKept s (takeClosing c s) := by
  cases c with
  | meter => exact endAll_serialsKept .tenancy s
  | lock => exact .of_ledger (closeLock_ledger s)
  | keys | gate | loader | tenancy => exact .of_ledger rfl

theorem beginClosing_serialsKept (s : State) : SerialsKept s (beginClosing s) := by
  have closed : SerialsKept (stayClosing s) (stayClosed s) :=
    SerialsKept.foldl _ (fun s c => takeClosing_serialsKept c s) _ _
  rw [beginClosing_eq]
  exact SerialsKept.trans (t := stayClosing s) (.of_ledger rfl)
    (closed.trans (.of_ledger (testCompletion_ledger _)))

/-! ### The receipt and the notice (R153, R154) -/

theorem receive_serialsKept (serial : Nat) (s : State) : SerialsKept s (receive serial s) := by
  unfold receive
  split
  · have removed : SerialsKept s (removeThrough serial s) :=
      .of_suffix rfl rfl ((newerThan_suffix serial s.ret.records).map _)
    exact removed.trans (.of_ledger (testCompletion_ledger _))
  · exact .refl s

theorem takeNotice_serialsKept (serial : Nat) (s : State) : SerialsKept s (takeNotice serial s) := by
  unfold takeNotice
  split
  · refine SerialsKept.trans ?_ (.of_ledger (testCompletion_ledger _))
    refine .of_suffix rfl rfl ?_
    exact markOffered_serials serial s.ret.records ▸ List.suffix_refl _
  · exact .refl s

theorem endBilling_serialsKept (s : State) : SerialsKept s (endBilling s) := by
  unfold endBilling
  split
  · split
    · refine SerialsKept.trans ?_ (takeNotice_serialsKept ..)
      exact .of_ledger rfl
    · exact .refl s
  · exact .refl s
  · exact .refl s

end Sys2Proof.Machine
end

section
/-!
Every command keeps the serials consecutive (O59).
-/
namespace Sys2Proof.Machine

/-! ### The Classifier and the parsers -/

theorem onFeed_serialsKept (row : FeedRow) {act : CarriageUnit → State → State}
    (hact : ∀ u s, SerialsKept s (act u s)) (s : State) : SerialsKept s (onFeed row act s) := by
  by_cases taken : ∃ q, FeedTakes s row q
  · obtain ⟨q, taken⟩ := taken
    rw [onFeed_of_taken taken]
    exact (SerialsKept.of_ledger (afterFeed_ledger s)).trans (hact ..)
  · rw [onFeed_of_not_taken fun q h => taken ⟨q, h⟩]
    exact .refl s

theorem onDirective_serialsKept {α : Type} (row : FeedRow) (read : List Byte → Option α)
    {act : α → State → State} (hact : ∀ x s, SerialsKept s (act x s)) (s : State) :
    SerialsKept s (onDirective row read act s) := by
  refine onFeed_serialsKept row (fun u s => ?_) s
  split
  · exact hact ..
  · exact .of_ledger rfl

theorem onLocal_serialsKept (row : LocalRow) {act : CarriageUnit → State → State}
    (hact : ∀ u s, SerialsKept s (act u s)) (s : State) : SerialsKept s (onLocal row act s) := by
  by_cases taken : ∃ q, LocalTakes s row q
  · obtain ⟨q, taken⟩ := taken
    rw [onLocal_of_taken taken]
    exact (SerialsKept.of_ledger (afterLocal_ledger s)).trans (hact ..)
  · rw [onLocal_of_not_taken fun q h => taken ⟨q, h⟩]
    exact .refl s

theorem onCommand_serialsKept {α : Type} (kind : CommandKind) (read : List Byte → Option α)
    {act : α → State → Reply} (hact : ∀ x s, SerialsKept s (act x s).1) (s : State) :
    SerialsKept s (onCommand kind read act s) := by
  refine onLocal_serialsKept _ (fun u s => ?_) s
  split
  · exact (hact ..).trans (.of_ledger rfl)
  · exact .of_ledger rfl

/-! ### The starts (R92, R158) -/

/-- R158: a warm start clears the marks of the records and leaves their serials. -/
theorem makeStart_serialsKept (s : State) : SerialsKept s (makeStart s) := by
  cases whole : s.power.valid with
  | false => exact .of_lost whole
  | true =>
    have kept : (makeStart s).ret = s.ret.marksCleared := if_pos whole
    refine .of_suffix rfl ?_ ?_ <;> rw [kept]
    · rfl
    · have serials : (s.ret.marksCleared.records.map (·.serial)) = s.ret.records.map (·.serial) := by
        simp [Retained.marksCleared]
      exact serials ▸ List.suffix_refl _

/-! ### Every command, every step -/

theorem exec_serialsKept (c : Instr) {s t : State} (h : exec c s = .next t) : SerialsKept s t := by
  cases c with
  | powerUp =>
    cases h
    dsimp only
    split
    · exact .refl s
    · refine SerialsKept.trans ?_ (makeStart_serialsKept _)
      exact .of_ledger rfl
  | resetHeldLow => cases h; exact .of_ledger rfl
  | resetRelease =>
    cases h
    dsimp only
    split
    · refine SerialsKept.trans ?_ (makeStart_serialsKept _)
      exact .of_ledger rfl
    · exact .of_ledger rfl
  | standbySupplyLoss | mainSupplyLoss =>
    cases h
    dsimp only
    split
    · exact .of_lost rfl
    · exact .of_ledger rfl
  | coldStartWritesEnd =>
    cases h
    split
    · exact .of_empty rfl
    · exact .refl s
  | installationReadEnd memory =>
    cases h
    split
    · refine SerialsKept.trans ?_ (startUpCompletion_serialsKept _)
      exact .of_ledger rfl
    · exact .refl s
  | feedUnitArrival bytes =>
    cases h
    split
    · split
      · exact .of_ledger (offerFeed_ledger ..)
      · exact .of_ledger rfl
    · exact .refl s
  | feedInterfaceDiscard _ | localInsertByte _ =>
    cases h
    split <;> exact .of_ledger rfl
  | mediaUnit =>
    cases h
    split
    · split
      · exact .of_ledger ((commitsDue_ledger _).trans (classifyMedia_ledger ..))
      · exact .refl s
    · exact .refl s
  | discardedFeedUnit | directiveIgnored => cases h; exact onFeed_serialsKept _ (fun _ s => .refl s) s
  | timeMark =>
    cases h
    refine onFeed_serialsKept _ (fun u s => ?_) s
    split
    · exact adoptTime_serialsKept ..
    · exact .of_ledger rfl
  | keyUnit =>
    cases h
    exact onFeed_serialsKept _ (fun u s => .of_ledger (ledger_foldl _ takeEntry_ledger _ s)) s
  | tableOpen | tableRows | tableClose =>
    cases h
    refine onDirective_serialsKept _ _ (fun _ _ => ?_) s
    exact .of_ledger rfl
  | checkCompletion table => exact .of_ledger (execCheckCompletion_ledger table h)
  | tableActivation table =>
    cases h
    split
    · exact .of_ledger (decideCommit_ledger ..)
    · exact .refl s
  | tableCommit table =>
    cases h
    split
    · exact .of_ledger (commitIfDue_ledger table s)
    · exact .refl s
  | roomRecord =>
    cases h
    refine onDirective_serialsKept _ _ (fun x s => ?_) s
    split
    · exact .of_ledger (takeActive_ledger ..)
    · exact .of_ledger rfl
  | tenancyChange =>
    cases h
    refine onDirective_serialsKept _ _ (fun _ s => ?_) s
    split
    · exact .refl s
    · exact beginClosing_serialsKept s
  | completionTimeout =>
    cases h
    split <;> exact .of_ledger rfl
  | lockReset =>
    cases h
    refine onDirective_serialsKept _ _ (fun _ s => ?_) s
    exact .of_ledger (closeLock_ledger s)
  | purchaseVoid => cases h; exact onDirective_serialsKept _ _ voidFilm_serialsKept s
  | billingReceipt => cases h; exact onDirective_serialsKept _ _ receive_serialsKept s
  | billingPoll => cases h; exact onDirective_serialsKept (act := poll) _ _ (fun _ _ => .of_ledger rfl) s
  | emergencyOn =>
    cases h
    exact onDirective_serialsKept _ _ (fun _ _ => .of_ledger (beginEmergency_ledger ..)) s
  | emergencyOff =>
    cases h
    exact onDirective_serialsKept _ _ (fun _ s => .of_ledger (endEmergency_ledger s)) s
  | refusedUnit | unknownCommand =>
    cases h
    refine onLocal_serialsKept _ (fun _ _ => ?_) s
    exact .of_ledger rfl
  | select => cases h; exact onCommand_serialsKept _ _ (fun _ _ => .of_ledger (selectLabel_ledger ..)) s
  | purchase => cases h; exact onCommand_serialsKept _ _ buy_serialsKept s
  | pinEntry => cases h; exact onCommand_serialsKept _ _ (fun _ _ => .of_ledger (enterPin_ledger ..)) s
  | relock => cases h; exact onCommand_serialsKept _ _ (fun _ s => .of_ledger (relockNow_ledger s)) s
  | query | alertSetup | alertClear =>
    cases h
    exact onCommand_serialsKept _ _ (fun _ _ => .of_ledger rfl) s
  | secondEvent =>
    cases h
    split
    · exact secondEvent_serialsKept s
    · exact .refl s
  | sessionExpiry | lockoutExpiry =>
    cases h
    split
    · exact .of_ledger (lockEvent_byLock (paid .lock s)).ledger
    · exact .refl s
  | graceUsedUp | graceLapse | stepRemainingEnd =>
    cases h
    split
    · exact payMeter_serialsKept s
    · exact .refl s
  | resultUnitBegin _ => cases h; exact .of_ledger (beginResult_ledger _)
  | resultUnitEnd _ => cases h; exact .of_ledger (endResult_ledger _)
  | billingUnitBegin _ => cases h; exact .of_ledger (beginBilling_ledger _)
  | billingUnitEnd ready =>
    cases h
    exact SerialsKept.trans (t := sampleReturn ready s) (.of_ledger rfl) (endBilling_serialsKept _)
  | outputUnitBegin _ _ | outputUnitEnd _ _ => cases h; exact .of_ledger rfl

theorem step_serialsKept {s t : State} (h : step s = .next t) : SerialsKept s t := by
  unfold step at h
  split at h
  · cases h
    exact .of_ledger (tick_ledger s)
  · rename_i c rest _
    exact SerialsKept.trans (t := { s with pending := rest }) (.of_ledger rfl) (exec_serialsKept c h)

end Sys2Proof.Machine

/-- Settles O59: a record joins with the next serial, and records leave from the oldest on. -/
theorem stepKeepsSerialsConsecutive : Obligations.StepKeepsSerialsConsecutive :=
  fun _ _ hs h => (Sys2Proof.Machine.step_serialsKept h).consecutive hs
end

section
/-!
The admission purge: which units it blanks, and what it leaves of an output that lost one (O21).
-/
namespace Sys2Proof.Machine

theorem purgeHits_eq_false_iff (adm : Nat → Verdict) (q : QueuedUnit) : purgeHits adm q = false ↔
    ¬(q.verdict.passes = true ∧ (adm q.unit.label.toNat).passes = false) := by
  rw [← purgeHits_iff, Bool.not_eq_true]

theorem purged_queue_of_hit {adm : Nat → Verdict} {out : Output} {i : Nat} {q : QueuedUnit}
    (here : out.queue[i]? = some q) (hit : purgeHits adm q = true) :
    (out.purged adm).queue[i]? =
      some { q with unit := q.unit.blank, verdict := adm q.unit.label.toNat } := by
  rw [purged_queue, here, Option.map_some, purgeUnit_of_hit hit]

theorem purged_queue_of_miss {adm : Nat → Verdict} {out : Output} {i : Nat} {q : QueuedUnit}
    (here : out.queue[i]? = some q) (miss : purgeHits adm q = false) :
    (out.purged adm).queue[i]? = some q := by
  rw [purged_queue, here, Option.map_some, purgeUnit_of_miss miss]

/-- R167: the units newer than `q` are missed, so `q` is the last of the units hit, in the queue's order. -/
theorem purged_of_last_hit {adm : Nat → Verdict} {out : Output} {older newer : List QueuedUnit}
    {q : QueuedUnit} (waiting : out.queue = older ++ q :: newer) (hit : purgeHits adm q = true)
    (miss : ∀ x ∈ newer, purgeHits adm x = false) :
    out.purged adm = { out with
      queue := (out.purged adm).queue
      entryWait := true
      state := .blanked
      last := adm q.unit.label.toNat } := by
  have none_newer : newer.filter (purgeHits adm) = [] := by simpa using miss
  have hits : out.queue.filter (purgeHits adm) = older.filter (purgeHits adm) ++ [q] := by
    rw [waiting, List.filter_append, List.filter_cons_of_pos hit, none_newer]
  simp [Output.purged, hits]

end Sys2Proof.Machine

open Sys2Proof.Machine in
/-- Settles O21: a unit is lost exactly where the purge hits it; then place by place, and by the last hit. -/
theorem admissionPurgeBlanksWhatIsLost : Obligations.AdmissionPurgeBlanksWhatIsLost := by
  refine ⟨fun s => rfl, fun adm out => ⟨purged_length adm out, ?blanked, ?kept, ?whole, ?last⟩⟩
  case blanked =>
    exact fun i q here lost => purged_queue_of_hit here ((purgeHits_iff adm q).mpr lost)
  case kept =>
    exact fun i q here stays => purged_queue_of_miss here ((purgeHits_eq_false_iff adm q).mpr stays)
  case whole =>
    exact fun stay => purged_of_miss fun q mem => (purgeHits_eq_false_iff adm q).mpr (stay q mem)
  case last =>
    intro older q newer waiting lost stay
    exact purged_of_last_hit waiting ((purgeHits_iff adm q).mpr lost)
      fun x mem => (purgeHits_eq_false_iff adm x).mpr (stay x mem)
end

section
/-!
The Output Stages: what begins and ends a unit, what holds, the bytes and the unit's start (O49).
-/
namespace Sys2Proof.Machine

@[simp] theorem output_withOutput (o : OutputId) (out : Output) (s : State) :
    output (withOutput o out s) o = out := by
  cases o <;> rfl

/-! ### The begin and the end of a unit (R166) -/

/-- R166, §11.2: the trailer is the stamp and the verdict. -/
theorem sentBytes_eq (withTrailer : Bool) (x : QueuedUnit) : sentBytes withTrailer x =
    if withTrailer then x.unit.bytes ++ (beBytes 3 x.stamp.toNat ++ [x.verdict.code])
    else x.unit.bytes := by
  cases withTrailer
  · exact List.append_nil _
  · rfl

theorem Output.beginUnit_of_free {out : Output} {x : QueuedUnit} {rest : List QueuedUnit}
    (waiting : out.queue = x :: rest) (idle : out.transfer = none) (withTrailer : Bool) :
    out.beginUnit true withTrailer true =
      { out with
        ready := true
        queue := rest
        transfer := some { bytes := sentBytes withTrailer x, sent := 0 } } := by
  simp [Output.beginUnit, waiting, idle]

/-- R166: nothing waits, the stage is busy, or the line is not ready: only the level is sampled. -/
theorem Output.beginUnit_of_none {out : Output} {ready : Bool}
    (h : out.queue = [] ∨ out.transfer ≠ none ∨ ready = false) (isLive withTrailer : Bool) :
    out.beginUnit isLive withTrailer ready = { out with ready := ready } := by
  unfold Output.beginUnit
  rcases h with empty | busy | held
  · rw [empty]
  · split <;> simp [busy]
  · split <;> simp [held]

theorem Output.endUnit_of_ready (out : Output) :
    out.endUnit true true = { out with ready := true, transfer := none } := rfl

theorem Output.endUnit_of_held (isLive : Bool) (out : Output) :
    out.endUnit isLive false = { out with ready := false } := by
  simp [Output.endUnit]

/-! ### The commands on a live part -/

theorem exec_outputUnitBegin {s : State} (hlive : live s = true) (o : OutputId) (ready : Bool) :
    exec (.outputUnitBegin o ready) s =
      .next (withOutput o ((output s o).beginUnit true (trailerOption s o) ready) s) :=
  hlive ▸ rfl

theorem exec_outputUnitEnd {s : State} (hlive : live s = true) (o : OutputId) (ready : Bool) :
    exec (.outputUnitEnd o ready) s = .next (withOutput o ((output s o).endUnit true ready) s) :=
  hlive ▸ rfl

/-! ### The bytes at the output (R166, §11.5) -/

theorem outputByte_eq (s : State) (o : OutputId) : outputByte s o = (output s o).transfer.bind fun x =>
    (x.bytes[x.sent]?).map fun b => { byte := b, unitStart := decide (x.sent = 0) } := by
  simp only [outputByte, Sending.atPort_eq]

/-- R166: a stage that was idle and has begun a unit is at its sync. -/
theorem outputByte_begun {out : Output} {withTrailer : Bool} (idle : out.transfer = none)
    (begun : (out.beginUnit true withTrailer true).transfer ≠ none) (o : OutputId) (s : State) :
    outputByte (withOutput o (out.beginUnit true withTrailer true) s) o =
      some { byte := 0xB5, unitStart := true } := by
  rw [outputByte, output_withOutput]
  cases waiting : out.queue with
  | nil =>
    rw [Output.beginUnit_of_none (.inl waiting)] at begun
    exact absurd idle begun
  | cons x rest =>
    rw [Output.beginUnit_of_free waiting idle]
    exact Sending.atPort_begun x.unit _

end Sys2Proof.Machine

open Sys2Proof.Machine in
/-- Settles O49: the begins and ends by the line, the unit in transfer and what waits; then the bytes. -/
theorem outputStageSendsUnits : Obligations.OutputStageSendsUnits := by
  intro s o hlive out
  refine ⟨?begun, ?notBegun, exec_outputUnitEnd hlive o true, ?beginHeld, ?endHeld, outputByte_eq s o,
    ?unitStart⟩
  case begun =>
    intro x rest waiting idle
    rw [exec_outputUnitBegin hlive, Output.beginUnit_of_free waiting idle, sentBytes_eq]
    rfl
  case notBegun =>
    intro h
    rw [exec_outputUnitBegin hlive, Output.beginUnit_of_none (h.imp_right .inl)]
  case beginHeld => rw [exec_outputUnitBegin hlive, Output.beginUnit_of_none (.inr (.inr rfl))]
  case endHeld => rw [exec_outputUnitEnd hlive, Output.endUnit_of_held]
  case unitStart =>
    intro t idle begun run
    obtain rfl := Host.Outcome.next.inj ((exec_outputUnitBegin hlive o true).symm.trans run)
    rw [output_withOutput] at begun
    exact outputByte_begun idle begun o s
end
